-- ==== Sys2Proof/Word.lean ====
section
/-! DEFINITION. The two word types of the machine: the 8-bit byte of a register, a memory cell and the
data bus, and the 16-bit address of PC, SP and the pairs (R4 `XLEN8`, `ALEN`; R6, R7 of spec/00_scope.md). -/

namespace Sys2Proof

/-- `XLEN8` of R4: a general register, a memory cell, the data bus. -/
abbrev Byte := BitVec 8

/-- `ALEN` of R4: an address, PC, SP, a register pair. -/
abbrev Addr := BitVec 16

end Sys2Proof
end

