-- ==== Sys2Proof/Syntax.lean ====
section
/-! DEFINITION. The syntax of the instruction set: the operand selectors of R122, R123, R125 (spec/30_encoding.md) and the
one inductive `Instr`, with one constructor for each of the 511 rows of spec/opcode_table.json, the rows with operand bytes first and the others after
them, each group in the table's order (R136, R137, R138; Lean's compiler gives a constructor with fields one of the first 244 tags). A register, a bit number, a condition or a restart target that the table fixes in a row's mnemonic is part of the
constructor's name; `At` in a name is the table's parenthesis: the memory byte at the address that follows. -/

namespace Sys2Proof

/-- The seven general registers that the 3-bit field selects (R122, values other than 6). -/
inductive Reg8 where
  | b | c | d | e | h | l | a
  deriving DecidableEq, Repr

/-- The operand a 3-bit field selects (R122): a register, or the memory byte at HL. -/
inductive Operand where
  | reg (r : Reg8)
  | atHl
  deriving DecidableEq, Repr

/-- `rr` of LD rr,n16, INC rr, DEC rr and ADD HL,rr (R123, first table). -/
inductive Reg16 where
  | bc | de | hl | sp
  deriving DecidableEq, Repr

/-- `rr` of PUSH and POP (R123, second table). -/
inductive StackReg where
  | bc | de | hl | af
  deriving DecidableEq, Repr

/-- The pointer of LD (ptr),A and LD A,(ptr) (R123, third table). -/
inductive Pointer where
  | bc | de | hlInc | hlDec
  deriving DecidableEq, Repr

/-- The condition field (R125, R270). -/
inductive Cond where
  | nz | z | nc | c
  deriving DecidableEq, Repr

/-- The eight accumulator operations in the order of their number (R129, R200). -/
inductive AluOp where
  | add | adc | sub | sbc | and | xor | or | cp
  deriving DecidableEq, Repr

/-- The eight prefixed rotates and shifts in the order of their number (R132). -/
inductive RotOp where
  | rlc | rrc | rl | rr | sla | sra | swap | srl
  deriving DecidableEq, Repr

/-- One constructor for each row of spec/opcode_table.json. -/
inductive Instr where
  /-- 0x01 `LD BC,n16`, R180 -/
  | ldBcN16 (n : Addr)
  /-- 0x06 `LD B,n8`, R151 -/
  | ldBN8 (n : Byte)
  /-- 0x08 `LD (n16),SP`, R181 -/
  | ldAtN16Sp (n : Addr)
  /-- 0x0E `LD C,n8`, R151 -/
  | ldCN8 (n : Byte)
  /-- 0x10 `STOP`, R292 -/
  | stop (x : Byte)
  /-- 0x11 `LD DE,n16`, R180 -/
  | ldDeN16 (n : Addr)
  /-- 0x16 `LD D,n8`, R151 -/
  | ldDN8 (n : Byte)
  /-- 0x18 `JR e8`, R274 -/
  | jrE8 (e : Byte)
  /-- 0x1E `LD E,n8`, R151 -/
  | ldEN8 (n : Byte)
  /-- 0x20 `JR NZ,e8`, R275 -/
  | jrNzE8 (e : Byte)
  /-- 0x21 `LD HL,n16`, R180 -/
  | ldHlN16 (n : Addr)
  /-- 0x26 `LD H,n8`, R151 -/
  | ldHN8 (n : Byte)
  /-- 0x28 `JR Z,e8`, R275 -/
  | jrZE8 (e : Byte)
  /-- 0x2E `LD L,n8`, R151 -/
  | ldLN8 (n : Byte)
  /-- 0x30 `JR NC,e8`, R275 -/
  | jrNcE8 (e : Byte)
  /-- 0x31 `LD SP,n16`, R180 -/
  | ldSpN16 (n : Addr)
  /-- 0x36 `LD (HL),n8`, R154 -/
  | ldAtHlN8 (n : Byte)
  /-- 0x38 `JR C,e8`, R275 -/
  | jrCE8 (e : Byte)
  /-- 0x3E `LD A,n8`, R151 -/
  | ldAN8 (n : Byte)
  /-- 0xC2 `JP NZ,n16`, R272 -/
  | jpNzN16 (n : Addr)
  /-- 0xC3 `JP n16`, R271 -/
  | jpN16 (n : Addr)
  /-- 0xC4 `CALL NZ,n16`, R277 -/
  | callNzN16 (n : Addr)
  /-- 0xC6 `ADD A,n8`, R201 -/
  | addAN8 (n : Byte)
  /-- 0xCA `JP Z,n16`, R272 -/
  | jpZN16 (n : Addr)
  /-- 0xCC `CALL Z,n16`, R277 -/
  | callZN16 (n : Addr)
  /-- 0xCD `CALL n16`, R276 -/
  | callN16 (n : Addr)
  /-- 0xCE `ADC A,n8`, R202 -/
  | adcAN8 (n : Byte)
  /-- 0xD2 `JP NC,n16`, R272 -/
  | jpNcN16 (n : Addr)
  /-- 0xD4 `CALL NC,n16`, R277 -/
  | callNcN16 (n : Addr)
  /-- 0xD6 `SUB n8`, R203 -/
  | subN8 (n : Byte)
  /-- 0xDA `JP C,n16`, R272 -/
  | jpCN16 (n : Addr)
  /-- 0xDC `CALL C,n16`, R277 -/
  | callCN16 (n : Addr)
  /-- 0xDE `SBC A,n8`, R204 -/
  | sbcAN8 (n : Byte)
  /-- 0xE0 `LDH (n8),A`, R164 -/
  | ldhAtN8A (n : Byte)
  /-- 0xE6 `AND n8`, R205 -/
  | andN8 (n : Byte)
  /-- 0xE8 `ADD SP,e8`, R233 -/
  | addSpE8 (e : Byte)
  /-- 0xEA `LD (n16),A`, R160 -/
  | ldAtN16A (n : Addr)
  /-- 0xEE `XOR n8`, R206 -/
  | xorN8 (n : Byte)
  /-- 0xF0 `LDH A,(n8)`, R163 -/
  | ldhAAtN8 (n : Byte)
  /-- 0xF6 `OR n8`, R207 -/
  | orN8 (n : Byte)
  /-- 0xF8 `LD HL,SP+e8`, R183 -/
  | ldHlSpE8 (e : Byte)
  /-- 0xFA `LD A,(n16)`, R159 -/
  | ldAAtN16 (n : Addr)
  /-- 0xFE `CP n8`, R208 -/
  | cpN8 (n : Byte)
  /-- 0x00 `NOP`, R290 -/
  | nop
  /-- 0x02 `LD (BC),A`, R157 -/
  | ldAtBcA
  /-- 0x03 `INC BC`, R231 -/
  | incBc
  /-- 0x04 `INC B`, R209 -/
  | incB
  /-- 0x05 `DEC B`, R211 -/
  | decB
  /-- 0x07 `RLCA`, R240 -/
  | rlca
  /-- 0x09 `ADD HL,BC`, R230 -/
  | addHlBc
  /-- 0x0A `LD A,(BC)`, R155 -/
  | ldAAtBc
  /-- 0x0B `DEC BC`, R232 -/
  | decBc
  /-- 0x0C `INC C`, R209 -/
  | incC
  /-- 0x0D `DEC C`, R211 -/
  | decC
  /-- 0x0F `RRCA`, R241 -/
  | rrca
  /-- 0x12 `LD (DE),A`, R158 -/
  | ldAtDeA
  /-- 0x13 `INC DE`, R231 -/
  | incDe
  /-- 0x14 `INC D`, R209 -/
  | incD
  /-- 0x15 `DEC D`, R211 -/
  | decD
  /-- 0x17 `RLA`, R242 -/
  | rla
  /-- 0x19 `ADD HL,DE`, R230 -/
  | addHlDe
  /-- 0x1A `LD A,(DE)`, R156 -/
  | ldAAtDe
  /-- 0x1B `DEC DE`, R232 -/
  | decDe
  /-- 0x1C `INC E`, R209 -/
  | incE
  /-- 0x1D `DEC E`, R211 -/
  | decE
  /-- 0x1F `RRA`, R243 -/
  | rra
  /-- 0x22 `LD (HL+),A`, R167 -/
  | ldAtHlIncA
  /-- 0x23 `INC HL`, R231 -/
  | incHl
  /-- 0x24 `INC H`, R209 -/
  | incH
  /-- 0x25 `DEC H`, R211 -/
  | decH
  /-- 0x27 `DAA`, R213 -/
  | daa
  /-- 0x29 `ADD HL,HL`, R230 -/
  | addHlHl
  /-- 0x2A `LD A,(HL+)`, R165 -/
  | ldAAtHlInc
  /-- 0x2B `DEC HL`, R232 -/
  | decHl
  /-- 0x2C `INC L`, R209 -/
  | incL
  /-- 0x2D `DEC L`, R211 -/
  | decL
  /-- 0x2F `CPL`, R214 -/
  | cpl
  /-- 0x32 `LD (HL-),A`, R168 -/
  | ldAtHlDecA
  /-- 0x33 `INC SP`, R231 -/
  | incSp
  /-- 0x34 `INC (HL)`, R210 -/
  | incAtHl
  /-- 0x35 `DEC (HL)`, R212 -/
  | decAtHl
  /-- 0x37 `SCF`, R215 -/
  | scf
  /-- 0x39 `ADD HL,SP`, R230 -/
  | addHlSp
  /-- 0x3A `LD A,(HL-)`, R166 -/
  | ldAAtHlDec
  /-- 0x3B `DEC SP`, R232 -/
  | decSp
  /-- 0x3C `INC A`, R209 -/
  | incA
  /-- 0x3D `DEC A`, R211 -/
  | decA
  /-- 0x3F `CCF`, R216 -/
  | ccf
  /-- 0x40 `LD B,B`, R150 -/
  | ldBB
  /-- 0x41 `LD B,C`, R150 -/
  | ldBC
  /-- 0x42 `LD B,D`, R150 -/
  | ldBD
  /-- 0x43 `LD B,E`, R150 -/
  | ldBE
  /-- 0x44 `LD B,H`, R150 -/
  | ldBH
  /-- 0x45 `LD B,L`, R150 -/
  | ldBL
  /-- 0x46 `LD B,(HL)`, R152 -/
  | ldBAtHl
  /-- 0x47 `LD B,A`, R150 -/
  | ldBA
  /-- 0x48 `LD C,B`, R150 -/
  | ldCB
  /-- 0x49 `LD C,C`, R150 -/
  | ldCC
  /-- 0x4A `LD C,D`, R150 -/
  | ldCD
  /-- 0x4B `LD C,E`, R150 -/
  | ldCE
  /-- 0x4C `LD C,H`, R150 -/
  | ldCH
  /-- 0x4D `LD C,L`, R150 -/
  | ldCL
  /-- 0x4E `LD C,(HL)`, R152 -/
  | ldCAtHl
  /-- 0x4F `LD C,A`, R150 -/
  | ldCA
  /-- 0x50 `LD D,B`, R150 -/
  | ldDB
  /-- 0x51 `LD D,C`, R150 -/
  | ldDC
  /-- 0x52 `LD D,D`, R150 -/
  | ldDD
  /-- 0x53 `LD D,E`, R150 -/
  | ldDE
  /-- 0x54 `LD D,H`, R150 -/
  | ldDH
  /-- 0x55 `LD D,L`, R150 -/
  | ldDL
  /-- 0x56 `LD D,(HL)`, R152 -/
  | ldDAtHl
  /-- 0x57 `LD D,A`, R150 -/
  | ldDA
  /-- 0x58 `LD E,B`, R150 -/
  | ldEB
  /-- 0x59 `LD E,C`, R150 -/
  | ldEC
  /-- 0x5A `LD E,D`, R150 -/
  | ldED
  /-- 0x5B `LD E,E`, R150 -/
  | ldEE
  /-- 0x5C `LD E,H`, R150 -/
  | ldEH
  /-- 0x5D `LD E,L`, R150 -/
  | ldEL
  /-- 0x5E `LD E,(HL)`, R152 -/
  | ldEAtHl
  /-- 0x5F `LD E,A`, R150 -/
  | ldEA
  /-- 0x60 `LD H,B`, R150 -/
  | ldHB
  /-- 0x61 `LD H,C`, R150 -/
  | ldHC
  /-- 0x62 `LD H,D`, R150 -/
  | ldHD
  /-- 0x63 `LD H,E`, R150 -/
  | ldHE
  /-- 0x64 `LD H,H`, R150 -/
  | ldHH
  /-- 0x65 `LD H,L`, R150 -/
  | ldHL
  /-- 0x66 `LD H,(HL)`, R152 -/
  | ldHAtHl
  /-- 0x67 `LD H,A`, R150 -/
  | ldHA
  /-- 0x68 `LD L,B`, R150 -/
  | ldLB
  /-- 0x69 `LD L,C`, R150 -/
  | ldLC
  /-- 0x6A `LD L,D`, R150 -/
  | ldLD
  /-- 0x6B `LD L,E`, R150 -/
  | ldLE
  /-- 0x6C `LD L,H`, R150 -/
  | ldLH
  /-- 0x6D `LD L,L`, R150 -/
  | ldLL
  /-- 0x6E `LD L,(HL)`, R152 -/
  | ldLAtHl
  /-- 0x6F `LD L,A`, R150 -/
  | ldLA
  /-- 0x70 `LD (HL),B`, R153 -/
  | ldAtHlB
  /-- 0x71 `LD (HL),C`, R153 -/
  | ldAtHlC
  /-- 0x72 `LD (HL),D`, R153 -/
  | ldAtHlD
  /-- 0x73 `LD (HL),E`, R153 -/
  | ldAtHlE
  /-- 0x74 `LD (HL),H`, R153 -/
  | ldAtHlH
  /-- 0x75 `LD (HL),L`, R153 -/
  | ldAtHlL
  /-- 0x76 `HALT`, R291 -/
  | halt
  /-- 0x77 `LD (HL),A`, R153 -/
  | ldAtHlA
  /-- 0x78 `LD A,B`, R150 -/
  | ldAB
  /-- 0x79 `LD A,C`, R150 -/
  | ldAC
  /-- 0x7A `LD A,D`, R150 -/
  | ldAD
  /-- 0x7B `LD A,E`, R150 -/
  | ldAE
  /-- 0x7C `LD A,H`, R150 -/
  | ldAH
  /-- 0x7D `LD A,L`, R150 -/
  | ldAL
  /-- 0x7E `LD A,(HL)`, R152 -/
  | ldAAtHl
  /-- 0x7F `LD A,A`, R150 -/
  | ldAA
  /-- 0x80 `ADD A,B`, R201 -/
  | addAB
  /-- 0x81 `ADD A,C`, R201 -/
  | addAC
  /-- 0x82 `ADD A,D`, R201 -/
  | addAD
  /-- 0x83 `ADD A,E`, R201 -/
  | addAE
  /-- 0x84 `ADD A,H`, R201 -/
  | addAH
  /-- 0x85 `ADD A,L`, R201 -/
  | addAL
  /-- 0x86 `ADD A,(HL)`, R201 -/
  | addAAtHl
  /-- 0x87 `ADD A,A`, R201 -/
  | addAA
  /-- 0x88 `ADC A,B`, R202 -/
  | adcAB
  /-- 0x89 `ADC A,C`, R202 -/
  | adcAC
  /-- 0x8A `ADC A,D`, R202 -/
  | adcAD
  /-- 0x8B `ADC A,E`, R202 -/
  | adcAE
  /-- 0x8C `ADC A,H`, R202 -/
  | adcAH
  /-- 0x8D `ADC A,L`, R202 -/
  | adcAL
  /-- 0x8E `ADC A,(HL)`, R202 -/
  | adcAAtHl
  /-- 0x8F `ADC A,A`, R202 -/
  | adcAA
  /-- 0x90 `SUB B`, R203 -/
  | subB
  /-- 0x91 `SUB C`, R203 -/
  | subC
  /-- 0x92 `SUB D`, R203 -/
  | subD
  /-- 0x93 `SUB E`, R203 -/
  | subE
  /-- 0x94 `SUB H`, R203 -/
  | subH
  /-- 0x95 `SUB L`, R203 -/
  | subL
  /-- 0x96 `SUB (HL)`, R203 -/
  | subAtHl
  /-- 0x97 `SUB A`, R203 -/
  | subA
  /-- 0x98 `SBC A,B`, R204 -/
  | sbcAB
  /-- 0x99 `SBC A,C`, R204 -/
  | sbcAC
  /-- 0x9A `SBC A,D`, R204 -/
  | sbcAD
  /-- 0x9B `SBC A,E`, R204 -/
  | sbcAE
  /-- 0x9C `SBC A,H`, R204 -/
  | sbcAH
  /-- 0x9D `SBC A,L`, R204 -/
  | sbcAL
  /-- 0x9E `SBC A,(HL)`, R204 -/
  | sbcAAtHl
  /-- 0x9F `SBC A,A`, R204 -/
  | sbcAA
  /-- 0xA0 `AND B`, R205 -/
  | andB
  /-- 0xA1 `AND C`, R205 -/
  | andC
  /-- 0xA2 `AND D`, R205 -/
  | andD
  /-- 0xA3 `AND E`, R205 -/
  | andE
  /-- 0xA4 `AND H`, R205 -/
  | andH
  /-- 0xA5 `AND L`, R205 -/
  | andL
  /-- 0xA6 `AND (HL)`, R205 -/
  | andAtHl
  /-- 0xA7 `AND A`, R205 -/
  | andA
  /-- 0xA8 `XOR B`, R206 -/
  | xorB
  /-- 0xA9 `XOR C`, R206 -/
  | xorC
  /-- 0xAA `XOR D`, R206 -/
  | xorD
  /-- 0xAB `XOR E`, R206 -/
  | xorE
  /-- 0xAC `XOR H`, R206 -/
  | xorH
  /-- 0xAD `XOR L`, R206 -/
  | xorL
  /-- 0xAE `XOR (HL)`, R206 -/
  | xorAtHl
  /-- 0xAF `XOR A`, R206 -/
  | xorA
  /-- 0xB0 `OR B`, R207 -/
  | orB
  /-- 0xB1 `OR C`, R207 -/
  | orC
  /-- 0xB2 `OR D`, R207 -/
  | orD
  /-- 0xB3 `OR E`, R207 -/
  | orE
  /-- 0xB4 `OR H`, R207 -/
  | orH
  /-- 0xB5 `OR L`, R207 -/
  | orL
  /-- 0xB6 `OR (HL)`, R207 -/
  | orAtHl
  /-- 0xB7 `OR A`, R207 -/
  | orA
  /-- 0xB8 `CP B`, R208 -/
  | cpB
  /-- 0xB9 `CP C`, R208 -/
  | cpC
  /-- 0xBA `CP D`, R208 -/
  | cpD
  /-- 0xBB `CP E`, R208 -/
  | cpE
  /-- 0xBC `CP H`, R208 -/
  | cpH
  /-- 0xBD `CP L`, R208 -/
  | cpL
  /-- 0xBE `CP (HL)`, R208 -/
  | cpAtHl
  /-- 0xBF `CP A`, R208 -/
  | cpA
  /-- 0xC0 `RET NZ`, R279 -/
  | retNz
  /-- 0xC1 `POP BC`, R185 -/
  | popBc
  /-- 0xC5 `PUSH BC`, R184 -/
  | pushBc
  /-- 0xC7 `RST 0x00`, R281 -/
  | rst00
  /-- 0xC8 `RET Z`, R279 -/
  | retZ
  /-- 0xC9 `RET`, R278 -/
  | ret
  /-- 0xCF `RST 0x08`, R281 -/
  | rst08
  /-- 0xD0 `RET NC`, R279 -/
  | retNc
  /-- 0xD1 `POP DE`, R185 -/
  | popDe
  /-- 0xD3, unassigned, R295 -/
  | illegalD3
  /-- 0xD5 `PUSH DE`, R184 -/
  | pushDe
  /-- 0xD7 `RST 0x10`, R281 -/
  | rst10
  /-- 0xD8 `RET C`, R279 -/
  | retC
  /-- 0xD9 `RETI`, R280 -/
  | reti
  /-- 0xDB, unassigned, R295 -/
  | illegalDB
  /-- 0xDD, unassigned, R295 -/
  | illegalDD
  /-- 0xDF `RST 0x18`, R281 -/
  | rst18
  /-- 0xE1 `POP HL`, R185 -/
  | popHl
  /-- 0xE2 `LDH (C),A`, R162 -/
  | ldhAtCA
  /-- 0xE3, unassigned, R295 -/
  | illegalE3
  /-- 0xE4, unassigned, R295 -/
  | illegalE4
  /-- 0xE5 `PUSH HL`, R184 -/
  | pushHl
  /-- 0xE7 `RST 0x20`, R281 -/
  | rst20
  /-- 0xE9 `JP HL`, R273 -/
  | jpHl
  /-- 0xEB, unassigned, R295 -/
  | illegalEB
  /-- 0xEC, unassigned, R295 -/
  | illegalEC
  /-- 0xED, unassigned, R295 -/
  | illegalED
  /-- 0xEF `RST 0x28`, R281 -/
  | rst28
  /-- 0xF1 `POP AF`, R185 -/
  | popAf
  /-- 0xF2 `LDH A,(C)`, R161 -/
  | ldhAAtC
  /-- 0xF3 `DI`, R293 -/
  | di
  /-- 0xF4, unassigned, R295 -/
  | illegalF4
  /-- 0xF5 `PUSH AF`, R184 -/
  | pushAf
  /-- 0xF7 `RST 0x30`, R281 -/
  | rst30
  /-- 0xF9 `LD SP,HL`, R182 -/
  | ldSpHl
  /-- 0xFB `EI`, R294 -/
  | ei
  /-- 0xFC, unassigned, R295 -/
  | illegalFC
  /-- 0xFD, unassigned, R295 -/
  | illegalFD
  /-- 0xFF `RST 0x38`, R281 -/
  | rst38
  /-- 0xCB 0x00 `RLC B`, R245 -/
  | rlcB
  /-- 0xCB 0x01 `RLC C`, R245 -/
  | rlcC
  /-- 0xCB 0x02 `RLC D`, R245 -/
  | rlcD
  /-- 0xCB 0x03 `RLC E`, R245 -/
  | rlcE
  /-- 0xCB 0x04 `RLC H`, R245 -/
  | rlcH
  /-- 0xCB 0x05 `RLC L`, R245 -/
  | rlcL
  /-- 0xCB 0x06 `RLC (HL)`, R245 -/
  | rlcAtHl
  /-- 0xCB 0x07 `RLC A`, R245 -/
  | rlcA
  /-- 0xCB 0x08 `RRC B`, R246 -/
  | rrcB
  /-- 0xCB 0x09 `RRC C`, R246 -/
  | rrcC
  /-- 0xCB 0x0A `RRC D`, R246 -/
  | rrcD
  /-- 0xCB 0x0B `RRC E`, R246 -/
  | rrcE
  /-- 0xCB 0x0C `RRC H`, R246 -/
  | rrcH
  /-- 0xCB 0x0D `RRC L`, R246 -/
  | rrcL
  /-- 0xCB 0x0E `RRC (HL)`, R246 -/
  | rrcAtHl
  /-- 0xCB 0x0F `RRC A`, R246 -/
  | rrcA
  /-- 0xCB 0x10 `RL B`, R247 -/
  | rlB
  /-- 0xCB 0x11 `RL C`, R247 -/
  | rlC
  /-- 0xCB 0x12 `RL D`, R247 -/
  | rlD
  /-- 0xCB 0x13 `RL E`, R247 -/
  | rlE
  /-- 0xCB 0x14 `RL H`, R247 -/
  | rlH
  /-- 0xCB 0x15 `RL L`, R247 -/
  | rlL
  /-- 0xCB 0x16 `RL (HL)`, R247 -/
  | rlAtHl
  /-- 0xCB 0x17 `RL A`, R247 -/
  | rlA
  /-- 0xCB 0x18 `RR B`, R248 -/
  | rrB
  /-- 0xCB 0x19 `RR C`, R248 -/
  | rrC
  /-- 0xCB 0x1A `RR D`, R248 -/
  | rrD
  /-- 0xCB 0x1B `RR E`, R248 -/
  | rrE
  /-- 0xCB 0x1C `RR H`, R248 -/
  | rrH
  /-- 0xCB 0x1D `RR L`, R248 -/
  | rrL
  /-- 0xCB 0x1E `RR (HL)`, R248 -/
  | rrAtHl
  /-- 0xCB 0x1F `RR A`, R248 -/
  | rrA
  /-- 0xCB 0x20 `SLA B`, R249 -/
  | slaB
  /-- 0xCB 0x21 `SLA C`, R249 -/
  | slaC
  /-- 0xCB 0x22 `SLA D`, R249 -/
  | slaD
  /-- 0xCB 0x23 `SLA E`, R249 -/
  | slaE
  /-- 0xCB 0x24 `SLA H`, R249 -/
  | slaH
  /-- 0xCB 0x25 `SLA L`, R249 -/
  | slaL
  /-- 0xCB 0x26 `SLA (HL)`, R249 -/
  | slaAtHl
  /-- 0xCB 0x27 `SLA A`, R249 -/
  | slaA
  /-- 0xCB 0x28 `SRA B`, R250 -/
  | sraB
  /-- 0xCB 0x29 `SRA C`, R250 -/
  | sraC
  /-- 0xCB 0x2A `SRA D`, R250 -/
  | sraD
  /-- 0xCB 0x2B `SRA E`, R250 -/
  | sraE
  /-- 0xCB 0x2C `SRA H`, R250 -/
  | sraH
  /-- 0xCB 0x2D `SRA L`, R250 -/
  | sraL
  /-- 0xCB 0x2E `SRA (HL)`, R250 -/
  | sraAtHl
  /-- 0xCB 0x2F `SRA A`, R250 -/
  | sraA
  /-- 0xCB 0x30 `SWAP B`, R251 -/
  | swapB
  /-- 0xCB 0x31 `SWAP C`, R251 -/
  | swapC
  /-- 0xCB 0x32 `SWAP D`, R251 -/
  | swapD
  /-- 0xCB 0x33 `SWAP E`, R251 -/
  | swapE
  /-- 0xCB 0x34 `SWAP H`, R251 -/
  | swapH
  /-- 0xCB 0x35 `SWAP L`, R251 -/
  | swapL
  /-- 0xCB 0x36 `SWAP (HL)`, R251 -/
  | swapAtHl
  /-- 0xCB 0x37 `SWAP A`, R251 -/
  | swapA
  /-- 0xCB 0x38 `SRL B`, R252 -/
  | srlB
  /-- 0xCB 0x39 `SRL C`, R252 -/
  | srlC
  /-- 0xCB 0x3A `SRL D`, R252 -/
  | srlD
  /-- 0xCB 0x3B `SRL E`, R252 -/
  | srlE
  /-- 0xCB 0x3C `SRL H`, R252 -/
  | srlH
  /-- 0xCB 0x3D `SRL L`, R252 -/
  | srlL
  /-- 0xCB 0x3E `SRL (HL)`, R252 -/
  | srlAtHl
  /-- 0xCB 0x3F `SRL A`, R252 -/
  | srlA
  /-- 0xCB 0x40 `BIT 0,B`, R253 -/
  | bit0B
  /-- 0xCB 0x41 `BIT 0,C`, R253 -/
  | bit0C
  /-- 0xCB 0x42 `BIT 0,D`, R253 -/
  | bit0D
  /-- 0xCB 0x43 `BIT 0,E`, R253 -/
  | bit0E
  /-- 0xCB 0x44 `BIT 0,H`, R253 -/
  | bit0H
  /-- 0xCB 0x45 `BIT 0,L`, R253 -/
  | bit0L
  /-- 0xCB 0x46 `BIT 0,(HL)`, R253 -/
  | bit0AtHl
  /-- 0xCB 0x47 `BIT 0,A`, R253 -/
  | bit0A
  /-- 0xCB 0x48 `BIT 1,B`, R253 -/
  | bit1B
  /-- 0xCB 0x49 `BIT 1,C`, R253 -/
  | bit1C
  /-- 0xCB 0x4A `BIT 1,D`, R253 -/
  | bit1D
  /-- 0xCB 0x4B `BIT 1,E`, R253 -/
  | bit1E
  /-- 0xCB 0x4C `BIT 1,H`, R253 -/
  | bit1H
  /-- 0xCB 0x4D `BIT 1,L`, R253 -/
  | bit1L
  /-- 0xCB 0x4E `BIT 1,(HL)`, R253 -/
  | bit1AtHl
  /-- 0xCB 0x4F `BIT 1,A`, R253 -/
  | bit1A
  /-- 0xCB 0x50 `BIT 2,B`, R253 -/
  | bit2B
  /-- 0xCB 0x51 `BIT 2,C`, R253 -/
  | bit2C
  /-- 0xCB 0x52 `BIT 2,D`, R253 -/
  | bit2D
  /-- 0xCB 0x53 `BIT 2,E`, R253 -/
  | bit2E
  /-- 0xCB 0x54 `BIT 2,H`, R253 -/
  | bit2H
  /-- 0xCB 0x55 `BIT 2,L`, R253 -/
  | bit2L
  /-- 0xCB 0x56 `BIT 2,(HL)`, R253 -/
  | bit2AtHl
  /-- 0xCB 0x57 `BIT 2,A`, R253 -/
  | bit2A
  /-- 0xCB 0x58 `BIT 3,B`, R253 -/
  | bit3B
  /-- 0xCB 0x59 `BIT 3,C`, R253 -/
  | bit3C
  /-- 0xCB 0x5A `BIT 3,D`, R253 -/
  | bit3D
  /-- 0xCB 0x5B `BIT 3,E`, R253 -/
  | bit3E
  /-- 0xCB 0x5C `BIT 3,H`, R253 -/
  | bit3H
  /-- 0xCB 0x5D `BIT 3,L`, R253 -/
  | bit3L
  /-- 0xCB 0x5E `BIT 3,(HL)`, R253 -/
  | bit3AtHl
  /-- 0xCB 0x5F `BIT 3,A`, R253 -/
  | bit3A
  /-- 0xCB 0x60 `BIT 4,B`, R253 -/
  | bit4B
  /-- 0xCB 0x61 `BIT 4,C`, R253 -/
  | bit4C
  /-- 0xCB 0x62 `BIT 4,D`, R253 -/
  | bit4D
  /-- 0xCB 0x63 `BIT 4,E`, R253 -/
  | bit4E
  /-- 0xCB 0x64 `BIT 4,H`, R253 -/
  | bit4H
  /-- 0xCB 0x65 `BIT 4,L`, R253 -/
  | bit4L
  /-- 0xCB 0x66 `BIT 4,(HL)`, R253 -/
  | bit4AtHl
  /-- 0xCB 0x67 `BIT 4,A`, R253 -/
  | bit4A
  /-- 0xCB 0x68 `BIT 5,B`, R253 -/
  | bit5B
  /-- 0xCB 0x69 `BIT 5,C`, R253 -/
  | bit5C
  /-- 0xCB 0x6A `BIT 5,D`, R253 -/
  | bit5D
  /-- 0xCB 0x6B `BIT 5,E`, R253 -/
  | bit5E
  /-- 0xCB 0x6C `BIT 5,H`, R253 -/
  | bit5H
  /-- 0xCB 0x6D `BIT 5,L`, R253 -/
  | bit5L
  /-- 0xCB 0x6E `BIT 5,(HL)`, R253 -/
  | bit5AtHl
  /-- 0xCB 0x6F `BIT 5,A`, R253 -/
  | bit5A
  /-- 0xCB 0x70 `BIT 6,B`, R253 -/
  | bit6B
  /-- 0xCB 0x71 `BIT 6,C`, R253 -/
  | bit6C
  /-- 0xCB 0x72 `BIT 6,D`, R253 -/
  | bit6D
  /-- 0xCB 0x73 `BIT 6,E`, R253 -/
  | bit6E
  /-- 0xCB 0x74 `BIT 6,H`, R253 -/
  | bit6H
  /-- 0xCB 0x75 `BIT 6,L`, R253 -/
  | bit6L
  /-- 0xCB 0x76 `BIT 6,(HL)`, R253 -/
  | bit6AtHl
  /-- 0xCB 0x77 `BIT 6,A`, R253 -/
  | bit6A
  /-- 0xCB 0x78 `BIT 7,B`, R253 -/
  | bit7B
  /-- 0xCB 0x79 `BIT 7,C`, R253 -/
  | bit7C
  /-- 0xCB 0x7A `BIT 7,D`, R253 -/
  | bit7D
  /-- 0xCB 0x7B `BIT 7,E`, R253 -/
  | bit7E
  /-- 0xCB 0x7C `BIT 7,H`, R253 -/
  | bit7H
  /-- 0xCB 0x7D `BIT 7,L`, R253 -/
  | bit7L
  /-- 0xCB 0x7E `BIT 7,(HL)`, R253 -/
  | bit7AtHl
  /-- 0xCB 0x7F `BIT 7,A`, R253 -/
  | bit7A
  /-- 0xCB 0x80 `RES 0,B`, R254 -/
  | res0B
  /-- 0xCB 0x81 `RES 0,C`, R254 -/
  | res0C
  /-- 0xCB 0x82 `RES 0,D`, R254 -/
  | res0D
  /-- 0xCB 0x83 `RES 0,E`, R254 -/
  | res0E
  /-- 0xCB 0x84 `RES 0,H`, R254 -/
  | res0H
  /-- 0xCB 0x85 `RES 0,L`, R254 -/
  | res0L
  /-- 0xCB 0x86 `RES 0,(HL)`, R254 -/
  | res0AtHl
  /-- 0xCB 0x87 `RES 0,A`, R254 -/
  | res0A
  /-- 0xCB 0x88 `RES 1,B`, R254 -/
  | res1B
  /-- 0xCB 0x89 `RES 1,C`, R254 -/
  | res1C
  /-- 0xCB 0x8A `RES 1,D`, R254 -/
  | res1D
  /-- 0xCB 0x8B `RES 1,E`, R254 -/
  | res1E
  /-- 0xCB 0x8C `RES 1,H`, R254 -/
  | res1H
  /-- 0xCB 0x8D `RES 1,L`, R254 -/
  | res1L
  /-- 0xCB 0x8E `RES 1,(HL)`, R254 -/
  | res1AtHl
  /-- 0xCB 0x8F `RES 1,A`, R254 -/
  | res1A
  /-- 0xCB 0x90 `RES 2,B`, R254 -/
  | res2B
  /-- 0xCB 0x91 `RES 2,C`, R254 -/
  | res2C
  /-- 0xCB 0x92 `RES 2,D`, R254 -/
  | res2D
  /-- 0xCB 0x93 `RES 2,E`, R254 -/
  | res2E
  /-- 0xCB 0x94 `RES 2,H`, R254 -/
  | res2H
  /-- 0xCB 0x95 `RES 2,L`, R254 -/
  | res2L
  /-- 0xCB 0x96 `RES 2,(HL)`, R254 -/
  | res2AtHl
  /-- 0xCB 0x97 `RES 2,A`, R254 -/
  | res2A
  /-- 0xCB 0x98 `RES 3,B`, R254 -/
  | res3B
  /-- 0xCB 0x99 `RES 3,C`, R254 -/
  | res3C
  /-- 0xCB 0x9A `RES 3,D`, R254 -/
  | res3D
  /-- 0xCB 0x9B `RES 3,E`, R254 -/
  | res3E
  /-- 0xCB 0x9C `RES 3,H`, R254 -/
  | res3H
  /-- 0xCB 0x9D `RES 3,L`, R254 -/
  | res3L
  /-- 0xCB 0x9E `RES 3,(HL)`, R254 -/
  | res3AtHl
  /-- 0xCB 0x9F `RES 3,A`, R254 -/
  | res3A
  /-- 0xCB 0xA0 `RES 4,B`, R254 -/
  | res4B
  /-- 0xCB 0xA1 `RES 4,C`, R254 -/
  | res4C
  /-- 0xCB 0xA2 `RES 4,D`, R254 -/
  | res4D
  /-- 0xCB 0xA3 `RES 4,E`, R254 -/
  | res4E
  /-- 0xCB 0xA4 `RES 4,H`, R254 -/
  | res4H
  /-- 0xCB 0xA5 `RES 4,L`, R254 -/
  | res4L
  /-- 0xCB 0xA6 `RES 4,(HL)`, R254 -/
  | res4AtHl
  /-- 0xCB 0xA7 `RES 4,A`, R254 -/
  | res4A
  /-- 0xCB 0xA8 `RES 5,B`, R254 -/
  | res5B
  /-- 0xCB 0xA9 `RES 5,C`, R254 -/
  | res5C
  /-- 0xCB 0xAA `RES 5,D`, R254 -/
  | res5D
  /-- 0xCB 0xAB `RES 5,E`, R254 -/
  | res5E
  /-- 0xCB 0xAC `RES 5,H`, R254 -/
  | res5H
  /-- 0xCB 0xAD `RES 5,L`, R254 -/
  | res5L
  /-- 0xCB 0xAE `RES 5,(HL)`, R254 -/
  | res5AtHl
  /-- 0xCB 0xAF `RES 5,A`, R254 -/
  | res5A
  /-- 0xCB 0xB0 `RES 6,B`, R254 -/
  | res6B
  /-- 0xCB 0xB1 `RES 6,C`, R254 -/
  | res6C
  /-- 0xCB 0xB2 `RES 6,D`, R254 -/
  | res6D
  /-- 0xCB 0xB3 `RES 6,E`, R254 -/
  | res6E
  /-- 0xCB 0xB4 `RES 6,H`, R254 -/
  | res6H
  /-- 0xCB 0xB5 `RES 6,L`, R254 -/
  | res6L
  /-- 0xCB 0xB6 `RES 6,(HL)`, R254 -/
  | res6AtHl
  /-- 0xCB 0xB7 `RES 6,A`, R254 -/
  | res6A
  /-- 0xCB 0xB8 `RES 7,B`, R254 -/
  | res7B
  /-- 0xCB 0xB9 `RES 7,C`, R254 -/
  | res7C
  /-- 0xCB 0xBA `RES 7,D`, R254 -/
  | res7D
  /-- 0xCB 0xBB `RES 7,E`, R254 -/
  | res7E
  /-- 0xCB 0xBC `RES 7,H`, R254 -/
  | res7H
  /-- 0xCB 0xBD `RES 7,L`, R254 -/
  | res7L
  /-- 0xCB 0xBE `RES 7,(HL)`, R254 -/
  | res7AtHl
  /-- 0xCB 0xBF `RES 7,A`, R254 -/
  | res7A
  /-- 0xCB 0xC0 `SET 0,B`, R255 -/
  | set0B
  /-- 0xCB 0xC1 `SET 0,C`, R255 -/
  | set0C
  /-- 0xCB 0xC2 `SET 0,D`, R255 -/
  | set0D
  /-- 0xCB 0xC3 `SET 0,E`, R255 -/
  | set0E
  /-- 0xCB 0xC4 `SET 0,H`, R255 -/
  | set0H
  /-- 0xCB 0xC5 `SET 0,L`, R255 -/
  | set0L
  /-- 0xCB 0xC6 `SET 0,(HL)`, R255 -/
  | set0AtHl
  /-- 0xCB 0xC7 `SET 0,A`, R255 -/
  | set0A
  /-- 0xCB 0xC8 `SET 1,B`, R255 -/
  | set1B
  /-- 0xCB 0xC9 `SET 1,C`, R255 -/
  | set1C
  /-- 0xCB 0xCA `SET 1,D`, R255 -/
  | set1D
  /-- 0xCB 0xCB `SET 1,E`, R255 -/
  | set1E
  /-- 0xCB 0xCC `SET 1,H`, R255 -/
  | set1H
  /-- 0xCB 0xCD `SET 1,L`, R255 -/
  | set1L
  /-- 0xCB 0xCE `SET 1,(HL)`, R255 -/
  | set1AtHl
  /-- 0xCB 0xCF `SET 1,A`, R255 -/
  | set1A
  /-- 0xCB 0xD0 `SET 2,B`, R255 -/
  | set2B
  /-- 0xCB 0xD1 `SET 2,C`, R255 -/
  | set2C
  /-- 0xCB 0xD2 `SET 2,D`, R255 -/
  | set2D
  /-- 0xCB 0xD3 `SET 2,E`, R255 -/
  | set2E
  /-- 0xCB 0xD4 `SET 2,H`, R255 -/
  | set2H
  /-- 0xCB 0xD5 `SET 2,L`, R255 -/
  | set2L
  /-- 0xCB 0xD6 `SET 2,(HL)`, R255 -/
  | set2AtHl
  /-- 0xCB 0xD7 `SET 2,A`, R255 -/
  | set2A
  /-- 0xCB 0xD8 `SET 3,B`, R255 -/
  | set3B
  /-- 0xCB 0xD9 `SET 3,C`, R255 -/
  | set3C
  /-- 0xCB 0xDA `SET 3,D`, R255 -/
  | set3D
  /-- 0xCB 0xDB `SET 3,E`, R255 -/
  | set3E
  /-- 0xCB 0xDC `SET 3,H`, R255 -/
  | set3H
  /-- 0xCB 0xDD `SET 3,L`, R255 -/
  | set3L
  /-- 0xCB 0xDE `SET 3,(HL)`, R255 -/
  | set3AtHl
  /-- 0xCB 0xDF `SET 3,A`, R255 -/
  | set3A
  /-- 0xCB 0xE0 `SET 4,B`, R255 -/
  | set4B
  /-- 0xCB 0xE1 `SET 4,C`, R255 -/
  | set4C
  /-- 0xCB 0xE2 `SET 4,D`, R255 -/
  | set4D
  /-- 0xCB 0xE3 `SET 4,E`, R255 -/
  | set4E
  /-- 0xCB 0xE4 `SET 4,H`, R255 -/
  | set4H
  /-- 0xCB 0xE5 `SET 4,L`, R255 -/
  | set4L
  /-- 0xCB 0xE6 `SET 4,(HL)`, R255 -/
  | set4AtHl
  /-- 0xCB 0xE7 `SET 4,A`, R255 -/
  | set4A
  /-- 0xCB 0xE8 `SET 5,B`, R255 -/
  | set5B
  /-- 0xCB 0xE9 `SET 5,C`, R255 -/
  | set5C
  /-- 0xCB 0xEA `SET 5,D`, R255 -/
  | set5D
  /-- 0xCB 0xEB `SET 5,E`, R255 -/
  | set5E
  /-- 0xCB 0xEC `SET 5,H`, R255 -/
  | set5H
  /-- 0xCB 0xED `SET 5,L`, R255 -/
  | set5L
  /-- 0xCB 0xEE `SET 5,(HL)`, R255 -/
  | set5AtHl
  /-- 0xCB 0xEF `SET 5,A`, R255 -/
  | set5A
  /-- 0xCB 0xF0 `SET 6,B`, R255 -/
  | set6B
  /-- 0xCB 0xF1 `SET 6,C`, R255 -/
  | set6C
  /-- 0xCB 0xF2 `SET 6,D`, R255 -/
  | set6D
  /-- 0xCB 0xF3 `SET 6,E`, R255 -/
  | set6E
  /-- 0xCB 0xF4 `SET 6,H`, R255 -/
  | set6H
  /-- 0xCB 0xF5 `SET 6,L`, R255 -/
  | set6L
  /-- 0xCB 0xF6 `SET 6,(HL)`, R255 -/
  | set6AtHl
  /-- 0xCB 0xF7 `SET 6,A`, R255 -/
  | set6A
  /-- 0xCB 0xF8 `SET 7,B`, R255 -/
  | set7B
  /-- 0xCB 0xF9 `SET 7,C`, R255 -/
  | set7C
  /-- 0xCB 0xFA `SET 7,D`, R255 -/
  | set7D
  /-- 0xCB 0xFB `SET 7,E`, R255 -/
  | set7E
  /-- 0xCB 0xFC `SET 7,H`, R255 -/
  | set7H
  /-- 0xCB 0xFD `SET 7,L`, R255 -/
  | set7L
  /-- 0xCB 0xFE `SET 7,(HL)`, R255 -/
  | set7AtHl
  /-- 0xCB 0xFF `SET 7,A`, R255 -/
  | set7A
  deriving DecidableEq, Repr

end Sys2Proof
end

