-- ==== Sys2Proof/WellFormed.lean ====
section
/-! DEFINITION. Which terms of `Instr` are instructions. Every operand of `Instr` has exactly the width of its
field (a byte, a 16-bit word), so no operand value can be ill formed. The one check left is R133's: the eleven unassigned
first bytes are rows of the opcode table and "select no instruction". -/

namespace Sys2Proof

/-- R133, R295: the eleven rows of the table that select no instruction. -/
def unassigned : List Instr :=
  [.illegalD3, .illegalDB, .illegalDD, .illegalE3, .illegalE4, .illegalEB, .illegalEC, .illegalED, .illegalF4,
    .illegalFC, .illegalFD]

/-- A term that stands for an instruction of the instruction set (R120: 244 first bytes and 256 behind the prefix). -/
abbrev Instr.WellFormed (i : Instr) : Prop := i ∉ unassigned

end Sys2Proof
end

