-- ==== Sys2Proof/Config.lean ====
section
/-! DEFINITION. The parameters of the machine (R4 of spec/00_scope.md) as plain data. A value of `Params` stands in
`State.params` and no step changes it, so a statement about every state is a statement about every value of every
parameter (notes/assumptions/1.md). `Params.default` holds the defaults of R4. -/

namespace Sys2Proof

/-- `ROM_BANK_OOR` (R4, R99): what a bank index beyond the image reads. -/
inductive RomBankOor where
  | saturate
  | mask
  deriving DecidableEq, Repr

/-- `HALT_PENDING_IME0` (R4, R291): HALT with IME clear and an enabled interrupt already pending. -/
inductive HaltPendingIme0 where
  | resume
  | fault
  | bug
  deriving DecidableEq, Repr

/-- The eight buttons (R313). -/
inductive Button where
  | right | left | up | down | a | b | select | start
  deriving DecidableEq, Repr

/-- One entry of `BUTTON_MAP` (R4: "the (bit, polarity) each of the eight buttons drives in the joypad byte"). -/
structure ButtonLine where
  /-- the bit of P1 the button drives, 0 to 3 -/
  line : Fin 4
  /-- the value of that bit while the button is held -/
  pressed : Bool
  deriving DecidableEq, Repr

/-- `BUTTON_MAP` (R4), one entry a button. -/
structure ButtonMap where
  right : ButtonLine
  left : ButtonLine
  up : ButtonLine
  down : ButtonLine
  a : ButtonLine
  b : ButtonLine
  select : ButtonLine
  start : ButtonLine
  deriving DecidableEq, Repr

/-- The table of R313: two buttons to a line, active low. -/
def ButtonMap.default : ButtonMap where
  right := ⟨0, false⟩
  left := ⟨1, false⟩
  up := ⟨2, false⟩
  down := ⟨3, false⟩
  a := ⟨0, false⟩
  b := ⟨1, false⟩
  select := ⟨2, false⟩
  start := ⟨3, false⟩

/-- The parameters of R4 that are not derived from the cartridge image and not supplied with a claim
(`END_OF_RUN` is an argument of Safety.lean's definitions, `RAM_INIT` an argument of `powerOn`). -/
structure Params where
  /-- `UNMAPPED_VALUE` -/
  unmapped : Byte
  /-- `ROM_BANK_OOR` -/
  romBankOor : RomBankOor
  /-- `HALT_PENDING_IME0` -/
  haltPendingIme0 : HaltPendingIme0
  /-- `APU_STEP_PERIOD`, in clock ticks -/
  apuStepPeriod : Nat
  /-- `WAVE_RAM_CLEARED_ON_POWER_OFF` -/
  waveClearedOnPowerOff : Bool
  /-- `LEN_RELOAD_ALIGN`: bit `fs` is the predicate at frame-sequencer phase `fs` -/
  lenReloadAlign : BitVec 8
  /-- `FS_RESET` -/
  fsReset : Fin 8
  /-- `BUTTON_MAP` -/
  buttonMap : ButtonMap
  deriving DecidableEq, Repr

/-- The defaults of R4. -/
def Params.default : Params where
  unmapped := 0xFF
  romBankOor := .saturate
  haltPendingIme0 := .resume
  apuStepPeriod := 8192
  waveClearedOnPowerOff := false
  lenReloadAlign := 0xFF
  fsReset := 0
  buttonMap := ButtonMap.default

end Sys2Proof
end

