-- ==== Sys2Proof/Machine/State.lean ====
section
/-! DEFINITION. The state of the machine as plain data (R20 to R43 of spec/10_state.md, R34, R90 of spec/20_memory.md, R342, R358 of
spec/60_exceptions.md), the reasons a step can stop, and the state after reset (R39 to R42, R400). -/

namespace Sys2Proof.Machine

/-! ## Stores -/

/-- The contents of one store: the cells that differ from what an unlisted cell of that store reads as (`unlisted`, Store.lean),
at strictly rising offsets. -/
abbrev Memory := List Host.Cell

/-- The stores of the block (R33, R34, R342). -/
inductive StoreId where
  | rom | cartRam | vram | wram | oam | hram | io | apu
  deriving DecidableEq, Repr

/-! ## CPU -/

/-- `STATE` (R26). -/
inductive ExecState where
  | normal | halt | stop
  deriving DecidableEq, Repr

/-! ## Cartridge -/

/-- `CART_KIND` (R34, R90). -/
inductive CartKind where
  | romOnly | mbc1
  deriving DecidableEq, Repr

/-- `MBC_MODE` (R34): labels, not capacities (spec/90_conflicts.md C2). -/
inductive MbcMode where
  | mode16x8 | mode4x32
  deriving DecidableEq, Repr

/-- The cartridge and its bank mapper (R34). -/
structure Cart where
  /-- `CART_KIND`, fixed at load -/
  kind : CartKind
  /-- `NBANKS`, fixed at load -/
  romBanks : Nat
  /-- `CART_RAM_SIZE`, fixed at load -/
  ramSize : Nat
  /-- `ROM`, the cartridge image, read-only -/
  rom : Memory
  /-- `CART_RAM` -/
  ram : Memory
  /-- `MBC_MODE` -/
  mode : MbcMode
  /-- `RAM_ENABLE` -/
  ramEnable : Bool
  /-- `ROM_BANK` -/
  romBank : BitVec 5
  deriving DecidableEq, Repr

/-! ## Audio unit -/

/-- The four channels (R341): square with sweep, square, wave, noise. -/
inductive Chan where
  | ch1 | ch2 | ch3 | ch4
  deriving DecidableEq, Repr

/-- The cached envelope of one channel (R342). -/
structure Envelope where
  /-- `ENV_PACE` -/
  pace : Nat
  /-- `ENV_CNT` -/
  cnt : Nat
  /-- `ENV_UP` -/
  up : Bool
  /-- `ENV_VOL` -/
  vol : Nat
  deriving DecidableEq, Repr

/-- The cached sweep of channel 1 (R342). -/
structure Sweep where
  /-- `SW_PACE` -/
  pace : Nat
  /-- `SW_CNT` -/
  cnt : Nat
  /-- `SW_EN` -/
  en : Bool
  /-- `SW_FREQ` -/
  freq : Nat
  /-- `NEG_DONE` -/
  negDone : Bool
  deriving DecidableEq, Repr

/-- The audio unit (R342). `POWER` is bit 7 of register 0x16 of `regs`. -/
structure Apu where
  /-- `APU_REG[0x00 .. 0x2F]` -/
  regs : Memory
  /-- `CH_ON[1]` -/
  on1 : Bool
  /-- `CH_ON[2]` -/
  on2 : Bool
  /-- `CH_ON[3]` -/
  on3 : Bool
  /-- `CH_ON[4]` -/
  on4 : Bool
  /-- `FS` -/
  fs : Nat
  /-- `LEN[1]` -/
  len1 : Nat
  /-- `LEN[2]` -/
  len2 : Nat
  /-- `LEN[3]` -/
  len3 : Nat
  /-- `LEN[4]` -/
  len4 : Nat
  env1 : Envelope
  env2 : Envelope
  env4 : Envelope
  sweep : Sweep
  deriving DecidableEq, Repr

/-! ## The host -/

/-- What the host can do between two CPU steps (R410); the read-only accessors change nothing and are no moves. -/
inductive HostMove where
  /-- `Press(b)` (R313) -/
  | press (x : Button)
  /-- `Release(b)` (R313) -/
  | release (x : Button)
  /-- `RequestInterrupt(i)` (R312) -/
  | requestInterrupt (i : Fin 5)
  /-- `ExternalIoWrite(addr, v)` (R103) -/
  | externalIoWrite (addr : Addr) (v : Byte)
  /-- `reset()` (R400) -/
  | reset
  deriving DecidableEq, Repr

/-! ## The whole state -/

/-- The state of the machine. -/
structure State where
  a : Byte
  f : Byte
  b : Byte
  c : Byte
  d : Byte
  e : Byte
  h : Byte
  l : Byte
  sp : Addr
  pc : Addr
  /-- `STATE` -/
  execState : ExecState
  cycles : Nat
  /-- `IME` -/
  ime : Bool
  /-- `EI_PENDING` -/
  eiPending : Bool
  /-- `HALT_BUG` (R291, kept under HALT_PENDING_IME0 = bug) -/
  haltBug : Bool
  /-- `IE` -/
  ie : Byte
  /-- `IF[4:0]` -/
  iflags : BitVec 5
  /-- `P1[5:0]` -/
  p1 : BitVec 6
  vram : Memory
  wram : Memory
  oam : Memory
  hram : Memory
  /-- the plain bytes of the I/O block (R36) -/
  io : Memory
  cart : Cart
  apu : Apu
  /-- `APU_NEXT` (R358) -/
  apuNext : Nat
  /-- the parameters of R4; no step changes them -/
  params : Params
  /-- the host moves still to come: the head before this step, the rest before the steps after it (R410) -/
  schedule : List (List HostMove)
  deriving DecidableEq, Repr

/-! ## Why a step stops -/

/-- The model's faults (R9, R300). The step that raises one changes nothing; only `reset()` leaves the outcome. -/
inductive Fault where
  /-- Raised by the eleven unassigned first bytes (R295), with the byte and its address. Safe: the hardware locks up. -/
  | illegalOpcode (op : Byte) (addr : Addr)
  /-- Raised by a write with bit 0 set to the mode-select window of an MBC1 cartridge (R97), with the address and the value.
  Safe: the model stops where the hardware goes on. -/
  | unsupportedMbc1Mode (addr : Addr) (v : Byte)
  /-- Raised by HALT with IME clear and an enabled interrupt pending, only under HALT_PENDING_IME0 = fault (R291), with the
  address of the HALT. Safe: the model stops where the hardware goes on. -/
  | haltBug (addr : Addr)
  deriving DecidableEq, Repr

/-- The model's refusals. -/
inductive Refusal where
  /-- Raised by `exec` for an instruction that has no meaning in the model; no arm raises it. Safe. -/
  | notModelled (mnemonic : String)
  /-- Raised at load for a cartridge type byte, RAM size code or bank count outside R90's, with the type byte
  (notes/assumptions/23.md). Safe: no state exists. -/
  | unsupportedCartridgeType (type : Byte)
  /-- Raised at load for an image of a length R90 does not admit. Safe: no state exists. -/
  | malformedRomImage
  deriving DecidableEq, Repr

/-- What an instruction, a write or a step ends in. -/
abbrev Result := Host.Outcome State Fault Refusal

/-! ## Reset -/

/-- R42 for the mapper registers; no image is loaded: the kind, bank count and RAM size are those of the 32KB image of
zeros (notes/assumptions/3.md). -/
def Cart.reset : Cart where
  kind := .romOnly
  romBanks := 2
  ramSize := 0
  rom := []
  ram := []
  mode := .mode16x8
  ramEnable := false
  romBank := 1

/-- R41: "every length counter, sweep field, envelope field, the frequency shadow and the negate-executed flag are 0". -/
def Envelope.zero : Envelope where
  pace := 0
  cnt := 0
  up := false
  vol := 0

/-- R41. -/
def Sweep.zero : Sweep where
  pace := 0
  cnt := 0
  en := false
  freq := 0
  negDone := false

/-- R41: an unlisted register reads its reset value. -/
def Apu.reset : Apu where
  regs := []
  on1 := true
  on2 := false
  on3 := false
  on4 := false
  fs := 0
  len1 := 0
  len2 := 0
  len3 := 0
  len4 := 0
  env1 := Envelope.zero
  env2 := Envelope.zero
  env4 := Envelope.zero
  sweep := Sweep.zero

/-- The machine right after reset (R39 to R42, R400), with R4's default parameters, no host move to come and nothing listed in any
store. -/
def State.reset : State where
  a := 0x01
  f := 0xB0
  b := 0x00
  c := 0x13
  d := 0x00
  e := 0xD8
  h := 0x01
  l := 0x4D
  sp := 0xFFFE
  pc := 0x0100
  execState := .normal
  cycles := 0
  ime := false
  eiPending := false
  haltBug := false
  ie := 0x00
  iflags := 0
  p1 := 0b001111
  vram := []
  wram := []
  oam := []
  hram := []
  io := []
  cart := Cart.reset
  apu := Apu.reset
  apuNext := 8192
  params := Params.default
  schedule := []

end Sys2Proof.Machine
end

