-- ==== Sys2Proof/Machine/Store.lean ====
section
/-! DEFINITION. The named operations on one store: what an unlisted cell reads as, reading a cell, writing a cell so that the
list keeps its canonical form, and that form as a predicate (`Memory.wf`). -/

namespace Sys2Proof.Machine

/-- R40: the reset value of the byte of the I/O block at offset `k` from 0xFF00. P1, IF and the APU window have no cell here. -/
def ioReset (k : Nat) : Byte :=
  match k with
  | 0x40 => 0x91
  | 0x47 => 0xFC
  | 0x48 => 0xFF
  | 0x49 => 0xFF
  | _ => 0x00

/-- R41: the reset value stored in `APU_REG[k]`. The wave pattern memory is unspecified there and reads 0x00
(notes/assumptions/5.md); the power bit is bit 7 of register 0x16 (R342). -/
def apuReset (k : Nat) : Byte :=
  match k with
  | 0x00 => 0x80
  | 0x01 => 0xBF
  | 0x02 => 0xF3
  | 0x04 => 0xBF
  | 0x06 => 0x3F
  | 0x09 => 0xBF
  | 0x0A => 0x7F
  | 0x0B => 0xFF
  | 0x0C => 0x9F
  | 0x0E => 0xBF
  | 0x10 => 0xFF
  | 0x13 => 0xBF
  | 0x14 => 0x77
  | 0x15 => 0xF3
  | 0x16 => 0x80
  | _ => 0x00

/-- What an unlisted cell of a store reads as: the reset contents where the spec gives them (R40, R41), 0x00 where it
gives none (R42; notes/assumptions/3.md, 4.md, 5.md). -/
def unlisted (id : StoreId) (k : Nat) : Byte :=
  match id with
  | .io => ioReset k
  | .apu => apuReset k
  | .rom | .cartRam | .vram | .wram | .oam | .hram => 0x00

/-- The size of a store in bytes (R33, R342); for the cartridge stores the largest size R90 admits. -/
def storeSize (id : StoreId) : Nat :=
  match id with
  | .rom => 0x80000
  | .cartRam => 0x2000
  | .vram => 0x2000
  | .wram => 0x2000
  | .oam => 160
  | .hram => 127
  | .io => 128
  | .apu => 0x30

/-- The listed byte at an offset, if there is one. -/
def Memory.lookup (m : Memory) (k : Nat) : Option Byte :=
  match m with
  | [] => none
  | (k', v) :: rest => if k' = k then some v else Memory.lookup rest k

/-- The byte at an offset. -/
def Memory.read (id : StoreId) (m : Memory) (k : Nat) : Byte :=
  (Memory.lookup m k).getD (unlisted id k)

/-- The list with the byte at `k` listed as `v`, in order. -/
def Memory.insertCell (m : Memory) (k : Nat) (v : Byte) : Memory :=
  match m with
  | [] => [(k, v)]
  | (k', v') :: rest =>
    if k < k' then (k, v) :: (k', v') :: rest
    else if k = k' then (k, v) :: rest
    else (k', v') :: Memory.insertCell rest k v

/-- The list with no entry at `k`. -/
def Memory.eraseCell (m : Memory) (k : Nat) : Memory :=
  match m with
  | [] => []
  | (k', v') :: rest => if k' = k then rest else (k', v') :: Memory.eraseCell rest k

/-- Write a byte. Writing what an unlisted cell reads as removes the entry, so equal memories are equal lists. -/
def Memory.write (id : StoreId) (m : Memory) (k : Nat) (v : Byte) : Memory :=
  if v = unlisted id k then Memory.eraseCell m k else Memory.insertCell m k v

/-- Every listed offset is at least `lo`, the offsets rise strictly, each lies inside the store and no entry equals what
an unlisted cell reads as. -/
def Memory.wfFrom (id : StoreId) (lo : Nat) (m : Memory) : Bool :=
  match m with
  | [] => true
  | (k, v) :: rest =>
    decide (lo ≤ k) && decide (k < storeSize id) && decide (v ≠ unlisted id k) && Memory.wfFrom id (k + 1) rest

/-- The canonical form of a store's contents. -/
def Memory.wf (id : StoreId) (m : Memory) : Bool :=
  Memory.wfFrom id 0 m

/-- The contents that list the bytes of `bytes` from offset `k` on. -/
def Memory.ofBytes (id : StoreId) (k : Nat) (bytes : List Byte) : Memory :=
  match bytes with
  | [] => []
  | v :: rest => if v = unlisted id k then Memory.ofBytes id (k + 1) rest else (k, v) :: Memory.ofBytes id (k + 1) rest

end Sys2Proof.Machine
end

