-- ==== Sys2Proof/Machine/Apu.lean ====
section
/-! DEFINITION. The audio unit (spec/60_exceptions.md section 4: R340 to R359): its read handler, its write handler with power
gating, the trigger, and the frame-sequencer step with its length, sweep and envelope ticks. `k` is the register number
`addr - 0xFF10`. -/

namespace Sys2Proof.Machine

/-! ## Registers -/

/-- `APU_REG[k]`. -/
def Apu.reg (apu : Apu) (k : Nat) : Byte :=
  Memory.read .apu apu.regs k

/-- `APU_REG[k] <- v`. -/
def Apu.setReg (apu : Apu) (k : Nat) (v : Byte) : Apu :=
  { apu with regs := Memory.write .apu apu.regs k v }

/-- `MASK[k]`, the bits that read as one (R341). -/
def readMask (k : Nat) : Byte :=
  match k with
  | 0x00 => 0x80
  | 0x01 => 0x3F
  | 0x02 => 0x00
  | 0x03 => 0xFF
  | 0x04 => 0xBF
  | 0x05 => 0xFF
  | 0x06 => 0x3F
  | 0x07 => 0x00
  | 0x08 => 0xFF
  | 0x09 => 0xBF
  | 0x0A => 0x7F
  | 0x0B => 0xFF
  | 0x0C => 0x9F
  | 0x0D => 0xFF
  | 0x0E => 0xBF
  | 0x0F => 0xFF
  | 0x10 => 0xFF
  | 0x11 => 0x00
  | 0x12 => 0x00
  | 0x13 => 0xBF
  | 0x14 => 0x00
  | 0x15 => 0x00
  | 0x16 => 0x70
  | _ => if k < 0x20 then 0xFF else 0x00

/-- `POWER`: bit 7 of NR52 (R342). -/
def Apu.power (apu : Apu) : Bool :=
  (apu.reg 0x16).getLsbD 7

/-- The length register NRn1 of a channel (R346). -/
def lengthReg (n : Chan) : Nat :=
  match n with
  | .ch1 => 0x01
  | .ch2 => 0x06
  | .ch3 => 0x0B
  | .ch4 => 0x10

/-- The register that holds a channel's DAC bits: NRn2, or NR30 for channel 3 (R347). -/
def dacReg (n : Chan) : Nat :=
  match n with
  | .ch1 => 0x02
  | .ch2 => 0x07
  | .ch3 => 0x0A
  | .ch4 => 0x11

/-- The control register NRn4 of a channel (R349). -/
def controlReg (n : Chan) : Nat :=
  match n with
  | .ch1 => 0x04
  | .ch2 => 0x09
  | .ch3 => 0x0E
  | .ch4 => 0x13

/-- The channel whose length register `k` is. -/
def lengthChan (k : Nat) : Option Chan :=
  match k with
  | 0x01 => some .ch1
  | 0x06 => some .ch2
  | 0x0B => some .ch3
  | 0x10 => some .ch4
  | _ => none

/-- The channel whose DAC register `k` is. -/
def dacChan (k : Nat) : Option Chan :=
  match k with
  | 0x02 => some .ch1
  | 0x07 => some .ch2
  | 0x0A => some .ch3
  | 0x11 => some .ch4
  | _ => none

/-- The channel whose control register `k` is. -/
def controlChan (k : Nat) : Option Chan :=
  match k with
  | 0x04 => some .ch1
  | 0x09 => some .ch2
  | 0x0E => some .ch3
  | 0x13 => some .ch4
  | _ => none

/-! ## Channels -/

/-- `CH_ON[n]`. -/
def Apu.chOn (apu : Apu) (n : Chan) : Bool :=
  match n with
  | .ch1 => apu.on1
  | .ch2 => apu.on2
  | .ch3 => apu.on3
  | .ch4 => apu.on4

/-- `CH_ON[n] <- v`. -/
def Apu.setChOn (apu : Apu) (n : Chan) (v : Bool) : Apu :=
  match n with
  | .ch1 => { apu with on1 := v }
  | .ch2 => { apu with on2 := v }
  | .ch3 => { apu with on3 := v }
  | .ch4 => { apu with on4 := v }

/-- `LEN[n]`. -/
def Apu.len (apu : Apu) (n : Chan) : Nat :=
  match n with
  | .ch1 => apu.len1
  | .ch2 => apu.len2
  | .ch3 => apu.len3
  | .ch4 => apu.len4

/-- `LEN[n] <- v`. -/
def Apu.setLen (apu : Apu) (n : Chan) (v : Nat) : Apu :=
  match n with
  | .ch1 => { apu with len1 := v }
  | .ch2 => { apu with len2 := v }
  | .ch3 => { apu with len3 := v }
  | .ch4 => { apu with len4 := v }

/-- `LEN_MAX(n)` (R341). -/
def lenMax (n : Chan) : Nat :=
  match n with
  | .ch1 | .ch2 | .ch4 => 64
  | .ch3 => 256

/-- The length a value of NRn1 loads: bits 5:0, or all eight bits for channel 3 (R346). -/
def lengthLoad (n : Chan) (v : Byte) : Nat :=
  match n with
  | .ch1 | .ch2 | .ch4 => (v.extractLsb' 0 6).toNat
  | .ch3 => v.toNat

/-- `DAC_ON(n)` (R341). -/
def Apu.dacOn (apu : Apu) (n : Chan) : Bool :=
  match n with
  | .ch1 | .ch2 | .ch4 => decide ((apu.reg (dacReg n)).extractLsb' 3 5 ≠ 0)
  | .ch3 => (apu.reg 0x0A).getLsbD 7

/-- `NRn4[6]`, the length-enable bit. -/
def Apu.lengthEnabled (apu : Apu) (n : Chan) : Bool :=
  (apu.reg (controlReg n)).getLsbD 6

/-! ## Sweep calculation -/

/-- `NR10[2:0]`, the live sweep shift. -/
def Apu.sweepShift (apu : Apu) : Nat :=
  ((apu.reg 0x00).extractLsb' 0 3).toNat

/-- `NR10[6:4]`, the live sweep pace. -/
def Apu.sweepPace (apu : Apu) : Nat :=
  ((apu.reg 0x00).extractLsb' 4 3).toNat

/-- `NR10[3]`: the sweep subtracts. -/
def Apu.sweepDown (apu : Apu) : Bool :=
  (apu.reg 0x00).getLsbD 3

/-- `new` of `SweepCalc()` (R355). -/
def Apu.sweepNew (apu : Apu) : Nat :=
  if apu.sweepDown then apu.sweep.freq - apu.sweep.freq >>> apu.sweepShift
  else apu.sweep.freq + apu.sweep.freq >>> apu.sweepShift

/-- `ovf` of `SweepCalc()` (R355). -/
def Apu.sweepOverflow (apu : Apu) : Bool :=
  !apu.sweepDown && decide (2047 < apu.sweepNew)

/-- The one change of state `SweepCalc()` makes: a subtraction sets `NEG_DONE` (R355). -/
def Apu.recordNegate (apu : Apu) : Apu :=
  if apu.sweepDown then { apu with sweep := { apu.sweep with negDone := true } } else apu

/-! ## Trigger (R350) -/

/-- Step 1: the length reload. -/
def Apu.triggerLength (p : Params) (apu : Apu) (n : Chan) : Apu :=
  if apu.len n = 0 ∧ apu.lengthEnabled n = true ∧ p.lenReloadAlign.getLsbD apu.fs = true then
    apu.setLen n (lengthLoad n (apu.reg (lengthReg n)))
  else apu

/-- Step 2 for one channel: the envelope loaded from NRn2. -/
def Envelope.load (nrx2 : Byte) : Envelope :=
  let pace := (nrx2.extractLsb' 0 3).toNat
  { pace := pace
    cnt := if pace ≠ 0 then pace else 8
    up := nrx2.getLsbD 3
    vol := (nrx2.extractLsb' 4 4).toNat }

/-- Step 2: channels 1, 2 and 4. -/
def Apu.triggerEnvelope (apu : Apu) (n : Chan) : Apu :=
  match n with
  | .ch1 => { apu with env1 := Envelope.load (apu.reg 0x02) }
  | .ch2 => { apu with env2 := Envelope.load (apu.reg 0x07) }
  | .ch3 => apu
  | .ch4 => { apu with env4 := Envelope.load (apu.reg 0x11) }

/-- `NR14[2:0] : NR13[7:0]`. -/
def Apu.frequency1 (apu : Apu) : Nat :=
  ((apu.reg 0x04).extractLsb' 0 3 ++ apu.reg 0x03).toNat

/-- Step 3: the sweep and the frequency, channel 1. -/
def Apu.triggerSweep (apu : Apu) (n : Chan) : Apu :=
  match n with
  | .ch1 =>
    { apu with
      sweep :=
        { pace := apu.sweepPace
          cnt := if apu.sweepPace ≠ 0 then apu.sweepPace else 8
          en := decide (apu.sweepPace ≠ 0 ∨ apu.sweepShift ≠ 0)
          freq := apu.frequency1
          negDone := false } }
  | .ch2 | .ch3 | .ch4 => apu

/-- Step 4: the channel is on if its DAC is. -/
def Apu.triggerEnable (apu : Apu) (n : Chan) : Apu :=
  apu.setChOn n (apu.dacOn n)

/-- Step 5: the immediate overflow check, channel 1. -/
def Apu.triggerCheck (apu : Apu) (n : Chan) : Apu :=
  match n with
  | .ch1 =>
    if apu.sweepShift ≠ 0 then
      if apu.sweepOverflow then apu.recordNegate.setChOn .ch1 false else apu.recordNegate
    else apu
  | .ch2 | .ch3 | .ch4 => apu

/-- `Trigger(n)` (R350): its five steps in order. -/
def Apu.trigger (p : Params) (apu : Apu) (n : Chan) : Apu :=
  ((((apu.triggerLength p n).triggerEnvelope n).triggerSweep n).triggerEnable n).triggerCheck n

/-! ## Write handler (R344) -/

/-- `APU_REG[lo .. lo+n-1] <- 0`. -/
def Apu.clearRegs (apu : Apu) (lo n : Nat) : Apu :=
  match n with
  | 0 => apu
  | m + 1 => Apu.clearRegs (apu.setReg lo 0) (lo + 1) m

/-- The power-off of R345. -/
def Apu.powerOff (p : Params) (apu : Apu) : Apu :=
  let off := { apu with on1 := false, on2 := false, on3 := false, on4 := false }.clearRegs 0x00 0x16
  let wave := if p.waveClearedOnPowerOff then off.clearRegs 0x20 0x10 else off
  wave.setReg 0x16 0x00

/-- `WriteNR52(v)` (R345). -/
def Apu.writeNr52 (p : Params) (apu : Apu) (v : Byte) : Apu :=
  match v.getLsbD 7, apu.power with
  | false, true => apu.powerOff p
  | true, false => apu.setReg 0x16 0x80
  | false, false => apu
  | true, true => apu

/-- `WriteNRx1(k, v)` (R346). -/
def Apu.writeLength (apu : Apu) (n : Chan) (v : Byte) : Apu :=
  (apu.setReg (lengthReg n) v).setLen n (lengthLoad n v)

/-- `WriteLengthWhileOff(k, v)` (R346): the duty bits of channels 1 and 2 are not stored. -/
def Apu.writeLengthOff (apu : Apu) (n : Chan) (v : Byte) : Apu :=
  match n with
  | .ch1 | .ch2 => (apu.setReg (lengthReg n) (v &&& 0x3F)).setLen n (lengthLoad n v)
  | .ch3 | .ch4 => (apu.setReg (lengthReg n) v).setLen n (lengthLoad n v)

/-- `WriteDac(k, v)` (R347). -/
def Apu.writeDac (apu : Apu) (n : Chan) (v : Byte) : Apu :=
  let stored := apu.setReg (dacReg n) v
  if stored.dacOn n then stored else stored.setChOn n false

/-- `WriteNR10(v)` (R348). -/
def Apu.writeNr10 (apu : Apu) (v : Byte) : Apu :=
  let stored := apu.setReg 0x00 v
  if apu.sweep.negDone && !v.getLsbD 3 then stored.setChOn .ch1 false else stored

/-- `WriteNRx4(k, v)` (R349). -/
def Apu.writeControl (p : Params) (apu : Apu) (n : Chan) (v : Byte) : Apu :=
  let stored := apu.setReg (controlReg n) v
  if v.getLsbD 7 then stored.trigger p n else stored

/-- The channel and volume registers with the unit on (R344, the last case). -/
def Apu.writeOn (p : Params) (apu : Apu) (k : Nat) (v : Byte) : Apu :=
  match lengthChan k, dacChan k, controlChan k with
  | some n, _, _ => apu.writeLength n v
  | none, some n, _ => apu.writeDac n v
  | none, none, some n => apu.writeControl p n v
  | none, none, none => if k = 0x00 then apu.writeNr10 v else apu.setReg k v

/-- The channel and volume registers with the unit off: only the length registers are written (R344). -/
def Apu.writeOff (apu : Apu) (k : Nat) (v : Byte) : Apu :=
  match lengthChan k with
  | some n => apu.writeLengthOff n v
  | none => apu

/-- `ApuSetMem(addr, v)` (R344). -/
def Apu.write (p : Params) (apu : Apu) (k : Nat) (v : Byte) : Apu :=
  if 0x20 ≤ k then apu.setReg k v
  else if k = 0x16 then apu.writeNr52 p v
  else if k = 0x05 ∨ k = 0x0F ∨ 0x17 ≤ k then apu
  else if apu.power then apu.writeOn p k v
  else apu.writeOff k v

/-! ## Read handler (R343) -/

/-- NR52 as it reads: power, three ones, the four status bits. -/
def Apu.readNr52 (apu : Apu) : Byte :=
  BitVec.ofBool apu.power ++ 0b111#3 ++ BitVec.ofBool apu.on4 ++ BitVec.ofBool apu.on3 ++ BitVec.ofBool apu.on2 ++
    BitVec.ofBool apu.on1

/-- `ApuGetMem(addr)` (R343). -/
def Apu.read (apu : Apu) (k : Nat) : Byte :=
  if k = 0x16 then apu.readNr52 else apu.reg k ||| readMask k

/-! ## The frame sequencer (R352) -/

/-- `LengthTick()` for one channel (R353). -/
def Apu.lengthTickOf (apu : Apu) (n : Chan) : Apu :=
  if apu.lengthEnabled n then
    let counted := if apu.len n < lenMax n then apu.setLen n (apu.len n + 1) else apu
    if counted.len n = lenMax n then counted.setChOn n false else counted
  else apu

/-- `LengthTick()` (R353): channels 1 to 4 in turn. -/
def Apu.lengthTick (apu : Apu) : Apu :=
  (((apu.lengthTickOf .ch1).lengthTickOf .ch2).lengthTickOf .ch3).lengthTickOf .ch4

/-- The write-back of a new frequency (R354): the shadow, NR13, and bits 2:0 of NR14. -/
def Apu.writeBackFrequency (apu : Apu) (new : Nat) : Apu :=
  let w : BitVec 11 := BitVec.ofNat 11 new
  let low := { apu with sweep := { apu.sweep with freq := new } }.setReg 0x03 (w.extractLsb' 0 8)
  low.setReg 0x04 ((low.reg 0x04).extractLsb' 3 5 ++ w.extractLsb' 8 3)

/-- The sweep step at the end of the countdown with a live pace other than 0 (R354). -/
def Apu.sweepStep (apu : Apu) (pace : Nat) : Apu :=
  let loaded := { apu with sweep := { apu.sweep with pace := pace, cnt := pace } }
  if loaded.sweepOverflow then loaded.recordNegate.setChOn .ch1 false
  else if loaded.sweepShift ≠ 0 then loaded.recordNegate.writeBackFrequency loaded.sweepNew
  else loaded.recordNegate

/-- `SweepTick()` (R354). -/
def Apu.sweepTick (apu : Apu) : Apu :=
  if apu.sweep.en && apu.on1 then
    let counted := { apu with sweep := { apu.sweep with cnt := apu.sweep.cnt - 1 } }
    if counted.sweep.cnt = 0 then
      if counted.sweepPace ≠ 0 then counted.sweepStep counted.sweepPace
      else { counted with sweep := { counted.sweep with cnt := 8 } }
    else counted
  else apu

/-- `EnvelopeTick()` on the cached envelope of an active channel (R356). -/
def Envelope.tick (env : Envelope) : Envelope :=
  let cnt := env.cnt - 1
  if cnt = 0 then
    if env.pace ≠ 0 then
      { env with
        cnt := env.pace
        vol := if env.up then (if env.vol < 15 then env.vol + 1 else env.vol) else env.vol - 1 }
    else { env with cnt := 8 }
  else { env with cnt := cnt }

/-- `EnvelopeTick()` (R356): channels 1, 2 and 4, those that are on. -/
def Apu.envelopeTick (apu : Apu) : Apu :=
  { apu with
    env1 := if apu.on1 then apu.env1.tick else apu.env1
    env2 := if apu.on2 then apu.env2.tick else apu.env2
    env4 := if apu.on4 then apu.env4.tick else apu.env4 }

/-- `ApuStep()` (R352): the counter first, then the ticks of its new phase. -/
def Apu.step (apu : Apu) : Apu :=
  let phase := (apu.fs + 1) % 8
  let counted := { apu with fs := phase }
  let lengthed := if phase % 2 = 0 then counted.lengthTick else counted
  let swept := if phase = 2 ∨ phase = 6 then lengthed.sweepTick else lengthed
  if phase = 7 then swept.envelopeTick else swept

/-- The audio unit's part of `reset()` (R400, R41): everything but the wave pattern memory, the frame sequencer at `FS_RESET`. -/
def Apu.resetUnit (p : Params) (apu : Apu) : Apu :=
  { Apu.reset with regs := apu.regs.filter (fun cell => decide (0x20 ≤ cell.1)), fs := p.fsReset.val }

end Sys2Proof.Machine
end

