-- ==== Sys2Proof/Machine/Cartridge.lean ====
section
/-! DEFINITION. The cartridge and its bank mapper (spec/20_memory.md section 5: R90 to R102): loading an image, the reads and writes that the
address space delegates, and the cartridge's reset. Addresses are CPU addresses in 0x0000 to 0x7FFF and 0xA000 to 0xBFFF. -/

namespace Sys2Proof.Machine

/-- The bank that a read of 0x4000 to 0x7FFF uses on MBC1 (R99): the selected one, clamped or masked where it is beyond the image. -/
def Cart.effectiveBank (p : Params) (cart : Cart) : Nat :=
  if cart.romBanks ≤ cart.romBank.toNat then
    match p.romBankOor with
    | .saturate => cart.romBanks - 1
    | .mask => cart.romBank.toNat % cart.romBanks
  else cart.romBank.toNat

/-- The offset in the image of a CPU address below 0x8000 (R91, R98, R99). -/
def Cart.romOffset (p : Params) (cart : Cart) (addr : Nat) : Nat :=
  if addr < 0x4000 then addr
  else
    match cart.kind with
    | .romOnly => addr
    | .mbc1 => (addr - 0x4000) + cart.effectiveBank p * 0x4000

/-- Cartridge RAM answers: an MBC1 cartridge that has some, enabled (R91, R100). -/
def Cart.ramPresent (cart : Cart) : Bool :=
  match cart.kind with
  | .romOnly => false
  | .mbc1 => cart.ramEnable && decide (0 < cart.ramSize)

/-- The offset in the cartridge RAM of a CPU address in 0xA000 to 0xBFFF (R100). -/
def Cart.ramOffset (cart : Cart) (addr : Nat) : Nat :=
  (addr - 0xA000) % cart.ramSize

/-- `CartRead(addr)` (R91, R98, R99, R100). -/
def Cart.read (p : Params) (cart : Cart) (addr : Nat) : Byte :=
  if addr < 0x8000 then Memory.read .rom cart.rom (cart.romOffset p addr)
  else if cart.ramPresent then Memory.read .cartRam cart.ram (cart.ramOffset addr)
  else p.unmapped

/-- The write of R97 that selects the second MBC1 mode, which the spec leaves unsupported. -/
def Cart.selectsMode4 (cart : Cart) (addr : Nat) (v : Byte) : Bool :=
  match cart.kind with
  | .romOnly => false
  | .mbc1 => decide (0x6000 ≤ addr) && decide (addr < 0x8000) && v.getLsbD 0

/-- The bank index a write of `v` to 0x2000 to 0x3FFF selects (R95). -/
def bankSelect (v : Byte) : BitVec 5 :=
  if v.extractLsb' 0 5 = 0 then 1 else v.extractLsb' 0 5

/-- `CartWrite(addr, v)` for a write that selects no unsupported mode (R92, R94 to R97, R100). -/
def Cart.write (cart : Cart) (addr : Nat) (v : Byte) : Cart :=
  match cart.kind with
  | .romOnly => cart
  | .mbc1 =>
    if addr < 0x2000 then { cart with ramEnable := decide (v.extractLsb' 0 4 = 0xA) }
    else if addr < 0x4000 then { cart with romBank := bankSelect v }
    else if addr < 0x6000 then cart
    else if addr < 0x8000 then { cart with mode := .mode16x8 }
    else if cart.ramPresent then { cart with ram := Memory.write .cartRam cart.ram (cart.ramOffset addr) v }
    else cart

/-- The cartridge's `reset` (R102). -/
def Cart.resetMapper (cart : Cart) : Cart :=
  match cart.kind with
  | .romOnly => cart
  | .mbc1 => { cart with mode := .mode16x8, ramEnable := false, romBank := 1 }

/-- `ramsize` of R90; none where the code is refused. -/
def ramSizeOf (code : Byte) : Option Nat :=
  if code = 0x00 then some 0
  else if code = 0x01 then some 2048
  else if code = 0x02 then some 8192
  else none

/-- A cartridge of the given kind and RAM size with the mapper registers of R42; of the power-on contents of its RAM only the
cells that exist are kept. -/
def Cart.ofImage (kind : CartKind) (ramSize : Nat) (image : List Byte) (ram : Memory) : Cart where
  kind := kind
  romBanks := image.length / 0x4000
  ramSize := ramSize
  rom := Memory.ofBytes .rom 0 image
  ram := ram.filter (fun cell => decide (cell.1 < ramSize))
  mode := .mode16x8
  ramEnable := false
  romBank := 1

/-- An MBC1 cartridge, refused beyond 32 banks (R90). R90 writes that refusal without an argument and R9 gives it a byte: that it is
the type byte at 0x0147 is the model's choice (DESIGN CHOICE, notes/assumptions/23.md). -/
def Cart.loadMbc1 (ramSize : Nat) (image : List Byte) (ram : Memory) : Except Refusal Cart :=
  if 32 < image.length / 0x4000 then .error (.unsupportedCartridgeType (image.getD 0x147 0))
  else .ok (Cart.ofImage .mbc1 ramSize image ram)

/-- Loading a cartridge image, with the power-on contents of its RAM (R90). The refusal of a RAM size code carries the type byte at
0x0147, as the refusal of an unknown type does: R90 writes no argument there (DESIGN CHOICE, notes/assumptions/23.md). -/
def Cart.load (image : List Byte) (ram : Memory) : Except Refusal Cart :=
  if image.length < 0x8000 ∨ image.length % 0x4000 ≠ 0 then .error .malformedRomImage
  else if image.getD 0x147 0 = 0x00 then
    if image.length / 0x4000 = 2 then .ok (Cart.ofImage .romOnly 0 image ram) else .error .malformedRomImage
  else if image.getD 0x147 0 = 0x01 then Cart.loadMbc1 0 image ram
  else if image.getD 0x147 0 = 0x02 ∨ image.getD 0x147 0 = 0x03 then
    match ramSizeOf (image.getD 0x149 0) with
    | some n => Cart.loadMbc1 n image ram
    | none => .error (.unsupportedCartridgeType (image.getD 0x147 0))
  else .error (.unsupportedCartridgeType (image.getD 0x147 0))

end Sys2Proof.Machine
end

