-- ==== Sys2Proof/Machine/Ops.lean ====
section
/-! DEFINITION. The named operations over memory, the program counter, the stack and the interrupt state: the region decoder with its
reads and writes (R61 to R75 of spec/20_memory.md), the fetch's advance of PC (R24, R121), Push16 and Pop16 (R8), and the two shared
operations of the interrupt mechanism: taking an interrupt (R304 to R308 of spec/60_exceptions.md) and returning from it (R310). -/

namespace Sys2Proof.Machine

/-- Go on with `f` from the next state; a fault or a refusal ends the step as it is (R300). -/
def Result.andThen (r : Result) (f : State → Result) : Result :=
  match r with
  | .next s => f s
  | .fault x => .fault x
  | .refused x => .refused x

/-! ## The region table (R61) -/

/-- The regions of R61. -/
inductive Region where
  | romFixed | romSwitch | vram | cartRam | wram | echo | oam | unusable | io | hram | ie
  deriving DecidableEq, Repr

/-- `region(addr)`: the table of R61, total. -/
def region (addr : Addr) : Region :=
  if addr.toNat < 0x4000 then .romFixed
  else if addr.toNat < 0x8000 then .romSwitch
  else if addr.toNat < 0xA000 then .vram
  else if addr.toNat < 0xC000 then .cartRam
  else if addr.toNat < 0xE000 then .wram
  else if addr.toNat < 0xFE00 then .echo
  else if addr.toNat < 0xFEA0 then .oam
  else if addr.toNat < 0xFF00 then .unusable
  else if addr.toNat < 0xFF80 then .io
  else if addr.toNat < 0xFFFF then .hram
  else .ie

/-! ## Reads and writes of one byte -/

/-- `IoRead(addr)` (R72), `k = addr - 0xFF00`. -/
def State.ioRead (s : State) (k : Nat) : Byte :=
  if k = 0x00 then 0b11#2 ++ s.p1
  else if k = 0x0F then 0b111#3 ++ s.iflags
  else if 0x10 ≤ k ∧ k ≤ 0x3F then s.apu.read (k - 0x10)
  else Memory.read .io s.io k

/-- `IoWrite(addr, v)` (R72), `k = addr - 0xFF00`. -/
def State.ioWrite (s : State) (k : Nat) (v : Byte) : State :=
  if k = 0x00 then { s with p1 := v.extractLsb' 4 2 ++ s.p1.extractLsb' 0 4 }
  else if k = 0x0F then { s with iflags := v.extractLsb' 0 5 }
  else if 0x10 ≤ k ∧ k ≤ 0x3F then { s with apu := s.apu.write s.params (k - 0x10) v }
  else { s with io := Memory.write .io s.io k v }

/-- `MemRead(addr, 1)` (R62). It changes nothing and never fails (R79). -/
def State.read8 (s : State) (addr : Addr) : Byte :=
  match region addr with
  | .romFixed | .romSwitch | .cartRam => s.cart.read s.params addr.toNat
  | .vram => Memory.read .vram s.vram (addr.toNat - 0x8000)
  | .wram => Memory.read .wram s.wram (addr.toNat - 0xC000)
  | .echo => Memory.read .wram s.wram (addr.toNat - 0xE000)
  | .oam => Memory.read .oam s.oam (addr.toNat - 0xFE00)
  | .unusable => s.params.unmapped
  | .io => s.ioRead (addr.toNat - 0xFF00)
  | .hram => Memory.read .hram s.hram (addr.toNat - 0xFF80)
  | .ie => s.ie

/-- The effect of `MemWrite(addr, 1, v)` (R63) where it raises no fault. -/
def State.store8 (s : State) (addr : Addr) (v : Byte) : State :=
  match region addr with
  | .romFixed | .romSwitch | .cartRam => { s with cart := s.cart.write addr.toNat v }
  | .vram => { s with vram := Memory.write .vram s.vram (addr.toNat - 0x8000) v }
  | .wram => { s with wram := Memory.write .wram s.wram (addr.toNat - 0xC000) v }
  | .echo => { s with wram := Memory.write .wram s.wram (addr.toNat - 0xE000) v }
  | .oam => { s with oam := Memory.write .oam s.oam (addr.toNat - 0xFE00) v }
  | .unusable => s
  | .io => s.ioWrite (addr.toNat - 0xFF00) v
  | .hram => { s with hram := Memory.write .hram s.hram (addr.toNat - 0xFF80) v }
  | .ie => { s with ie := v }

/-- The one write that faults: it selects the second mode of an MBC1 cartridge (R97). -/
def State.writeFaults (s : State) (addr : Addr) (v : Byte) : Bool :=
  s.cart.selectsMode4 addr.toNat v

/-- `MemWrite(addr, 1, v)` (R63, R97). -/
def State.write8 (s : State) (addr : Addr) (v : Byte) : Result :=
  if s.writeFaults addr v then .fault (.unsupportedMbc1Mode addr v) else .next (s.store8 addr v)

/-! ## Two bytes (R8, R76, R78) -/

/-- `MemRead(addr, 2)`: the low byte at the lower address, the second address modulo 65536. -/
def State.read16 (s : State) (addr : Addr) : Addr :=
  wordOf (s.read8 addr) (s.read8 (addr + 1))

/-- `MemWrite(addr, 2, v)`: the low byte first, at the lower address. -/
def State.write16 (s : State) (addr : Addr) (v : Addr) : Result :=
  (s.write8 addr (loByte v)).andThen fun t => t.write8 (addr + 1) (hiByte v)

/-- `Push16(v)`: the high byte at SP - 1, then the low byte at SP - 2. -/
def State.push16 (s : State) (v : Addr) : Result :=
  (({ s with sp := s.sp - 1 } : State).write8 (s.sp - 1) (hiByte v)).andThen fun t =>
    ({ t with sp := t.sp - 1 } : State).write8 (t.sp - 1) (loByte v)

/-- The value of `Pop16()`. -/
def State.popValue (s : State) : Addr :=
  s.read16 s.sp

/-- The state after `Pop16()`. -/
def State.popped (s : State) : State :=
  { s with sp := s.sp + 2 }

/-! ## Program counter and cycle counter -/

/-- PC after the fetch of an instruction of `n` bytes: one increment for each byte (R24, R121), less the one that the
halt bug leaves out (R291). -/
def State.pcAfter (s : State) (n : Addr) : Addr :=
  if s.haltBug then s.pc + n - 1 else s.pc + n

/-- The state in which an instruction of `n` bytes performs its effect: PC past the instruction (R121), `HALT_BUG` used up (R291). -/
def State.fetched (s : State) (n : Addr) : State :=
  { s with pc := s.pcAfter n, haltBug := false }

/-- The second and third byte of the instruction at PC follow the opcode, or the opcode's own address under the halt bug (R291). -/
def State.operandPc (s : State) : Addr :=
  if s.haltBug then s.pc else s.pc + 1

/-- The instruction at PC (R121). Reads have no side effect (R79), so reading a byte the instruction does not have changes nothing. -/
def State.decodeAtPc (s : State) : Instr :=
  decodeWindow (s.read8 s.pc) (s.read8 s.operandPc) (s.read8 (s.operandPc + 1))

/-- `cycles <- cycles + n`. -/
def State.tick (s : State) (n : Nat) : State :=
  { s with cycles := s.cycles + n }

/-- Add the cost of an instruction to what its effect left. -/
def Result.thenTick (r : Result) (n : Nat) : Result :=
  r.andThen fun t => .next (t.tick n)

/-! ## Interrupts -/

/-- `PEND = IE & IF & 0x1F` (R304). -/
def State.pend (s : State) : BitVec 5 :=
  s.ie.extractLsb' 0 5 &&& s.iflags

/-- The lowest-numbered pending source (R304). -/
def lowestSource (pend : BitVec 5) : Option (Fin 5) :=
  if pend.getLsbD 0 then some 0
  else if pend.getLsbD 1 then some 1
  else if pend.getLsbD 2 then some 2
  else if pend.getLsbD 3 then some 3
  else if pend.getLsbD 4 then some 4
  else none

/-- The vector of source `i` (R301). -/
def vectorOf (i : Fin 5) : Addr :=
  BitVec.ofNat 16 (0x0040 + 8 * i.val)

/-- The bit of source `i` in IE and IF (R301). -/
def sourceBit (i : Fin 5) : BitVec 5 :=
  1#5 <<< i.val

/-- `Dispatch(i)` (R306, R307), the one way the machine takes an interrupt: the request is acknowledged, IME and EI_PENDING are
cleared, PC is pushed, and PC goes to the vector, at a cost of 20 ticks. -/
def State.takeInterrupt (s : State) (i : Fin 5) : Result :=
  (({ s with iflags := s.iflags &&& ~~~(sourceBit i), ime := false, eiPending := false } : State).push16 s.pc).andThen
    fun t => .next (({ t with pc := vectorOf i } : State).tick 20)

/-- The return from a handler (R280, R310): PC is popped and IME is set at once. -/
def State.returnFromInterrupt (s : State) : State :=
  { s.popped with pc := s.popValue, ime := true }

/-- `InterruptCheck()` (R305). -/
def State.interruptCheck (s : State) : Result :=
  if s.ime then
    match lowestSource s.pend with
    | some i => s.takeInterrupt i
    | none => .next s
  else .next s

/-- The check that ends a step in Normal state (R305). After an instruction that entered Stop there is none: while Stop lasts no
interrupt is dispatched and requests stay in IF (R292, R315). R305 writes the check without a test of STATE; that the two rules are
read together so is the model's choice (DEDUCED, notes/assumptions/22.md). -/
def State.boundaryCheck (s : State) : Result :=
  if s.execState = .stop then .next s else s.interruptCheck

/-- The promotion of a pending enable that opens a step in Normal state (R305, R294). -/
def State.promoteEi (s : State) : State :=
  if s.eiPending then { s with ime := true, eiPending := false } else s

end Sys2Proof.Machine
end

