-- ==== Sys2Proof/Machine/Operands.lean ====
section
/-! DEFINITION. Every operand form: the 8-bit registers and the pairs (R20, R21), the operand field of R122 with its memory form, the
pointers of R123, the high-page addresses of R161 to R164, and the conditions of R270. -/

namespace Sys2Proof.Machine

/-- `x[r]`. -/
def State.reg8 (s : State) (r : Reg8) : Byte :=
  match r with
  | .b => s.b
  | .c => s.c
  | .d => s.d
  | .e => s.e
  | .h => s.h
  | .l => s.l
  | .a => s.a

/-- `x[r] <- v`. -/
def State.setReg8 (s : State) (r : Reg8) (v : Byte) : State :=
  match r with
  | .b => { s with b := v }
  | .c => { s with c := v }
  | .d => { s with d := v }
  | .e => { s with e := v }
  | .h => { s with h := v }
  | .l => { s with l := v }
  | .a => { s with a := v }

/-- `AF = A : F` (R21). -/
def State.af (s : State) : Addr := s.a ++ s.f

/-- `BC = B : C`. -/
def State.bc (s : State) : Addr := s.b ++ s.c

/-- `DE = D : E`. -/
def State.de (s : State) : Addr := s.d ++ s.e

/-- `HL = H : L`. -/
def State.hl (s : State) : Addr := s.h ++ s.l

/-- `AF <- v`, with `F[3:0] = 0` (R21, R22). -/
def State.setAf (s : State) (v : Addr) : State := { s with a := hiByte v, f := loByte v &&& 0xF0 }

/-- `BC <- v`. -/
def State.setBc (s : State) (v : Addr) : State := { s with b := hiByte v, c := loByte v }

/-- `DE <- v`. -/
def State.setDe (s : State) (v : Addr) : State := { s with d := hiByte v, e := loByte v }

/-- `HL <- v`. -/
def State.setHl (s : State) (v : Addr) : State := { s with h := hiByte v, l := loByte v }

/-- The first table of R123. -/
def State.reg16 (s : State) (r : Reg16) : Addr :=
  match r with
  | .bc => s.bc
  | .de => s.de
  | .hl => s.hl
  | .sp => s.sp

/-- The first table of R123, written. -/
def State.setReg16 (s : State) (r : Reg16) (v : Addr) : State :=
  match r with
  | .bc => s.setBc v
  | .de => s.setDe v
  | .hl => s.setHl v
  | .sp => { s with sp := v }

/-- The second table of R123. -/
def State.stackReg (s : State) (r : StackReg) : Addr :=
  match r with
  | .bc => s.bc
  | .de => s.de
  | .hl => s.hl
  | .af => s.af

/-- The second table of R123, written. -/
def State.setStackReg (s : State) (r : StackReg) (v : Addr) : State :=
  match r with
  | .bc => s.setBc v
  | .de => s.setDe v
  | .hl => s.setHl v
  | .af => s.setAf v

/-- An operand of R122, read. -/
def State.readOperand (s : State) (t : Operand) : Byte :=
  match t with
  | .reg r => s.reg8 r
  | .atHl => s.read8 s.hl

/-- An operand of R122, written. -/
def State.writeOperand (s : State) (t : Operand) (v : Byte) : Result :=
  match t with
  | .reg r => .next (s.setReg8 r v)
  | .atHl => s.write8 s.hl v

/-- A cost that depends on where the operand is. -/
def operandCost (t : Operand) (reg atHl : Nat) : Nat :=
  match t with
  | .reg _ => reg
  | .atHl => atHl

/-- The address a pointer of R123 gives. -/
def State.pointerAddr (s : State) (p : Pointer) : Addr :=
  match p with
  | .bc => s.bc
  | .de => s.de
  | .hlInc | .hlDec => s.hl

/-- What using a pointer of R123 does to HL (R165 to R168). -/
def State.stepPointer (s : State) (p : Pointer) : State :=
  match p with
  | .bc | .de => s
  | .hlInc => s.setHl (s.hl + 1)
  | .hlDec => s.setHl (s.hl - 1)

/-- `0xFF00 + zext_16(v)` (R124, R161 to R164). -/
def highPage (v : Byte) : Addr := 0xFF00 + v.setWidth 16

/-- `F.Z`. -/
def State.flagZ (s : State) : Bool := s.f.getLsbD 7

/-- `F.N`. -/
def State.flagN (s : State) : Bool := s.f.getLsbD 6

/-- `F.H`. -/
def State.flagH (s : State) : Bool := s.f.getLsbD 5

/-- `F.C`. -/
def State.flagC (s : State) : Bool := s.f.getLsbD 4

/-- `cond(cc)` (R270). -/
def State.cond (s : State) (k : Cond) : Bool :=
  match k with
  | .nz => !s.flagZ
  | .z => s.flagZ
  | .nc => !s.flagC
  | .c => s.flagC

end Sys2Proof.Machine
end

