-- ==== Sys2Proof/Machine/Flags.lean ====
section
/-! DEFINITION. Every computation of a value with its flags, each once: the accumulator operations (R201 to R208), increment and
decrement (R209, R211), DAA (R213), the 16-bit sums (R183, R230, R233), rotates and shifts (R240 to R252), and the bit test (R253). Sums are
computed in the naturals and reduced at the end, as the rules write them. -/

namespace Sys2Proof.Machine

/-- `F` from the four flags: bits 7, 6, 5, 4, and the low nibble zero (R22, R23). -/
def flagByte (z n h c : Bool) : Byte :=
  BitVec.ofBool z ++ BitVec.ofBool n ++ BitVec.ofBool h ++ BitVec.ofBool c ++ 0#4

/-- Write all four flags. -/
def State.setFlags (s : State) (z n h c : Bool) : State :=
  { s with f := flagByte z n h c }

/-- A byte with the four flags that go with it. -/
structure Flagged where
  value : Byte
  z : Bool
  n : Bool
  h : Bool
  c : Bool
  deriving DecidableEq, Repr

/-- `v[3:0]`. -/
def nibble (v : Byte) : Nat := v.toNat % 16

/-- R201, R202: `a + v + c`. -/
def addFlags (a v : Byte) (c : Bool) : Flagged :=
  let t := a.toNat + v.toNat + c.toNat
  { value := BitVec.ofNat 8 t
    z := decide (t % 256 = 0)
    n := false
    h := decide (0xF < nibble a + nibble v + c.toNat)
    c := decide (0xFF < t) }

/-- R203, R204: `a - v - c`. -/
def subFlags (a v : Byte) (c : Bool) : Flagged :=
  let t := a - v - BitVec.ofNat 8 c.toNat
  { value := t
    z := decide (t = 0)
    n := true
    h := decide (nibble a < nibble v + c.toNat)
    c := decide (a.toNat < v.toNat + c.toNat) }

/-- R205 to R207: a bitwise result. -/
def logicFlags (t : Byte) (h : Bool) : Flagged where
  value := t
  z := decide (t = 0)
  n := false
  h := h
  c := false

/-- The accumulator operation `op` of R129 on `a` and `v` with the old carry `c`; `value` is what A holds afterwards. -/
def aluFlags (op : AluOp) (a v : Byte) (c : Bool) : Flagged :=
  match op with
  | .add => addFlags a v false
  | .adc => addFlags a v c
  | .sub => subFlags a v false
  | .sbc => subFlags a v c
  | .and => logicFlags (a &&& v) true
  | .xor => logicFlags (a ^^^ v) false
  | .or => logicFlags (a ||| v) false
  | .cp => { subFlags a v false with value := a }

/-- R209: `v + 1`, C as it was. -/
def incFlags (v : Byte) (c : Bool) : Flagged where
  value := v + 1
  z := decide (v + 1 = 0)
  n := false
  h := decide (nibble v = 0xF)
  c := c

/-- R211: `v - 1`, C as it was. -/
def decFlags (v : Byte) (c : Bool) : Flagged where
  value := v - 1
  z := decide (v - 1 = 0)
  n := true
  h := decide (nibble v = 0)
  c := c

/-- R213, the adjustment after an addition: its two tests use A before any adjustment. -/
def daaAddAdjust (a : Byte) (h c : Bool) : Byte :=
  (if h ∨ 9 < nibble a then 0x06 else 0x00) ||| (if c ∨ 0x99 < a.toNat then 0x60 else 0x00)

/-- R213, the adjustment after a subtraction. -/
def daaSubAdjust (h c : Bool) : Byte :=
  (if h then 0x06 else 0x00) ||| (if c then 0x60 else 0x00)

/-- R213. -/
def daaFlags (a : Byte) (n h c : Bool) : Flagged :=
  let t := if n then a - daaSubAdjust h c else a + daaAddAdjust a h c
  { value := t
    z := decide (t = 0)
    n := n
    h := false
    c := if n then c else decide (c ∨ 0x99 < a.toNat) }

/-- R183, R233: SP plus the signed byte, with the two carries of the unsigned low-byte sum. -/
def spPlus (sp : Addr) (e : Byte) : Addr := sp + sext16 e

/-- `H` of R183 and R233: carry out of bit 3. -/
def spPlusH (sp : Addr) (e : Byte) : Bool := decide (0xF < sp.toNat % 16 + e.toNat % 16)

/-- `C` of R183 and R233: carry out of bit 7. -/
def spPlusC (sp : Addr) (e : Byte) : Bool := decide (0xFF < sp.toNat % 256 + e.toNat)

/-- `H` of R230: carry out of bit 11. -/
def add16H (x y : Addr) : Bool := decide (0xFFF < x.toNat % 4096 + y.toNat % 4096)

/-- `C` of R230: carry out of bit 15. -/
def add16C (x y : Addr) : Bool := decide (0xFFFF < x.toNat + y.toNat)

/-- R245 to R252: the value and the carry out of a rotate or shift of `v` with the old carry `c`. -/
def rotValue (o : RotOp) (v : Byte) (c : Bool) : Byte × Bool :=
  match o with
  | .rlc => (v.extractLsb' 0 7 ++ v.extractLsb' 7 1, v.getLsbD 7)
  | .rrc => (v.extractLsb' 0 1 ++ v.extractLsb' 1 7, v.getLsbD 0)
  | .rl => (v.extractLsb' 0 7 ++ BitVec.ofBool c, v.getLsbD 7)
  | .rr => (BitVec.ofBool c ++ v.extractLsb' 1 7, v.getLsbD 0)
  | .sla => (v <<< 1, v.getLsbD 7)
  | .sra => ((v >>> 1) ||| (v &&& 0x80), v.getLsbD 0)
  | .swap => (v.extractLsb' 0 4 ++ v.extractLsb' 4 4, false)
  | .srl => (v >>> 1, v.getLsbD 0)

/-- R245 to R252 with their flags. -/
def rotFlags (o : RotOp) (v : Byte) (c : Bool) : Flagged :=
  let w := rotValue o v c
  { value := w.1
    z := decide (w.1 = 0)
    n := false
    h := false
    c := w.2 }

/-- `1 << b` (R254, R255). -/
def bitMask (b : Fin 8) : Byte := 1#8 <<< b.val

/-- Write the four flags of a computed byte. -/
def State.withFlags (s : State) (r : Flagged) : State :=
  s.setFlags r.z r.n r.h r.c

end Sys2Proof.Machine
end

