-- ==== Sys2Proof/Machine/Load8.lean ====
section
/-! DEFINITION. The 8-bit loads and stores (spec/40_load8.md, R150 to R168). `fetched n` is the fetch of an
instruction of `n` bytes; the effect and the cost follow. No instruction of this family writes a flag. -/

namespace Sys2Proof.Machine

/-- LD r,r' (R150). -/
def loadRegReg (dst src : Reg8) (s : State) : Result :=
  .next (((s.fetched 1).setReg8 dst (s.reg8 src)).tick 4)

/-- LD r,n8 (R151) and LD (HL),n8 (R154). -/
def loadImm (t : Operand) (n : Byte) (s : State) : Result :=
  ((s.fetched 2).writeOperand t n).thenTick (operandCost t 8 12)

/-- LD r,(HL) (R152): memory is read with the old HL. -/
def loadRegAtHl (dst : Reg8) (s : State) : Result :=
  .next (((s.fetched 1).setReg8 dst (s.read8 s.hl)).tick 8)

/-- LD (HL),r (R153). -/
def storeAtHlReg (src : Reg8) (s : State) : Result :=
  ((s.fetched 1).write8 s.hl (s.reg8 src)).thenTick 8

/-- Load A from an address, by an instruction of `n` bytes. -/
def loadAFrom (addr : Addr) (n : Addr) (cost : Nat) (s : State) : Result :=
  .next ((({ s.fetched n with a := s.read8 addr }) : State).tick cost)

/-- Store A to an address, by an instruction of `n` bytes. -/
def storeATo (addr : Addr) (n : Addr) (cost : Nat) (s : State) : Result :=
  ((s.fetched n).write8 addr s.a).thenTick cost

/-- LD A,(ptr) (R155, R156, R165, R166). -/
def loadAPointer (p : Pointer) (s : State) : Result :=
  .next (((({ s.fetched 1 with a := s.read8 (s.pointerAddr p) }) : State).stepPointer p).tick 8)

/-- LD (ptr),A (R157, R158, R167, R168). -/
def storePointerA (p : Pointer) (s : State) : Result :=
  ((s.fetched 1).write8 (s.pointerAddr p) s.a).andThen fun t => .next ((t.stepPointer p).tick 8)

/-- LD A,(n16) (R159). -/
def loadAAbs (n : Addr) (s : State) : Result := loadAFrom n 3 16 s

/-- LD (n16),A (R160). -/
def storeAAbs (n : Addr) (s : State) : Result := storeATo n 3 16 s

/-- LDH A,(C) (R161). -/
def loadAHighC (s : State) : Result := loadAFrom (highPage s.c) 1 8 s

/-- LDH (C),A (R162). -/
def storeAHighC (s : State) : Result := storeATo (highPage s.c) 1 8 s

/-- LDH A,(n8) (R163). -/
def loadAHigh (n : Byte) (s : State) : Result := loadAFrom (highPage n) 2 12 s

/-- LDH (n8),A (R164). -/
def storeAHigh (n : Byte) (s : State) : Result := storeATo (highPage n) 2 12 s

/-! ## The meanings -/

/-- `LD (BC),A` (R157). -/
def execLdAtBcA (s : State) : Result := storePointerA .bc s

/-- `LD B,n8` (R151). -/
def execLdBN8 (n : Byte) (s : State) : Result := loadImm (.reg .b) n s

/-- `LD A,(BC)` (R155). -/
def execLdAAtBc (s : State) : Result := loadAPointer .bc s

/-- `LD C,n8` (R151). -/
def execLdCN8 (n : Byte) (s : State) : Result := loadImm (.reg .c) n s

/-- `LD (DE),A` (R158). -/
def execLdAtDeA (s : State) : Result := storePointerA .de s

/-- `LD D,n8` (R151). -/
def execLdDN8 (n : Byte) (s : State) : Result := loadImm (.reg .d) n s

/-- `LD A,(DE)` (R156). -/
def execLdAAtDe (s : State) : Result := loadAPointer .de s

/-- `LD E,n8` (R151). -/
def execLdEN8 (n : Byte) (s : State) : Result := loadImm (.reg .e) n s

/-- `LD (HL+),A` (R167). -/
def execLdAtHlIncA (s : State) : Result := storePointerA .hlInc s

/-- `LD H,n8` (R151). -/
def execLdHN8 (n : Byte) (s : State) : Result := loadImm (.reg .h) n s

/-- `LD A,(HL+)` (R165). -/
def execLdAAtHlInc (s : State) : Result := loadAPointer .hlInc s

/-- `LD L,n8` (R151). -/
def execLdLN8 (n : Byte) (s : State) : Result := loadImm (.reg .l) n s

/-- `LD (HL-),A` (R168). -/
def execLdAtHlDecA (s : State) : Result := storePointerA .hlDec s

/-- `LD (HL),n8` (R154). -/
def execLdAtHlN8 (n : Byte) (s : State) : Result := loadImm .atHl n s

/-- `LD A,(HL-)` (R166). -/
def execLdAAtHlDec (s : State) : Result := loadAPointer .hlDec s

/-- `LD A,n8` (R151). -/
def execLdAN8 (n : Byte) (s : State) : Result := loadImm (.reg .a) n s

/-- `LD B,B` (R150). -/
def execLdBB (s : State) : Result := loadRegReg .b .b s

/-- `LD B,C` (R150). -/
def execLdBC (s : State) : Result := loadRegReg .b .c s

/-- `LD B,D` (R150). -/
def execLdBD (s : State) : Result := loadRegReg .b .d s

/-- `LD B,E` (R150). -/
def execLdBE (s : State) : Result := loadRegReg .b .e s

/-- `LD B,H` (R150). -/
def execLdBH (s : State) : Result := loadRegReg .b .h s

/-- `LD B,L` (R150). -/
def execLdBL (s : State) : Result := loadRegReg .b .l s

/-- `LD B,(HL)` (R152). -/
def execLdBAtHl (s : State) : Result := loadRegAtHl .b s

/-- `LD B,A` (R150). -/
def execLdBA (s : State) : Result := loadRegReg .b .a s

/-- `LD C,B` (R150). -/
def execLdCB (s : State) : Result := loadRegReg .c .b s

/-- `LD C,C` (R150). -/
def execLdCC (s : State) : Result := loadRegReg .c .c s

/-- `LD C,D` (R150). -/
def execLdCD (s : State) : Result := loadRegReg .c .d s

/-- `LD C,E` (R150). -/
def execLdCE (s : State) : Result := loadRegReg .c .e s

/-- `LD C,H` (R150). -/
def execLdCH (s : State) : Result := loadRegReg .c .h s

/-- `LD C,L` (R150). -/
def execLdCL (s : State) : Result := loadRegReg .c .l s

/-- `LD C,(HL)` (R152). -/
def execLdCAtHl (s : State) : Result := loadRegAtHl .c s

/-- `LD C,A` (R150). -/
def execLdCA (s : State) : Result := loadRegReg .c .a s

/-- `LD D,B` (R150). -/
def execLdDB (s : State) : Result := loadRegReg .d .b s

/-- `LD D,C` (R150). -/
def execLdDC (s : State) : Result := loadRegReg .d .c s

/-- `LD D,D` (R150). -/
def execLdDD (s : State) : Result := loadRegReg .d .d s

/-- `LD D,E` (R150). -/
def execLdDE (s : State) : Result := loadRegReg .d .e s

/-- `LD D,H` (R150). -/
def execLdDH (s : State) : Result := loadRegReg .d .h s

/-- `LD D,L` (R150). -/
def execLdDL (s : State) : Result := loadRegReg .d .l s

/-- `LD D,(HL)` (R152). -/
def execLdDAtHl (s : State) : Result := loadRegAtHl .d s

/-- `LD D,A` (R150). -/
def execLdDA (s : State) : Result := loadRegReg .d .a s

/-- `LD E,B` (R150). -/
def execLdEB (s : State) : Result := loadRegReg .e .b s

/-- `LD E,C` (R150). -/
def execLdEC (s : State) : Result := loadRegReg .e .c s

/-- `LD E,D` (R150). -/
def execLdED (s : State) : Result := loadRegReg .e .d s

/-- `LD E,E` (R150). -/
def execLdEE (s : State) : Result := loadRegReg .e .e s

/-- `LD E,H` (R150). -/
def execLdEH (s : State) : Result := loadRegReg .e .h s

/-- `LD E,L` (R150). -/
def execLdEL (s : State) : Result := loadRegReg .e .l s

/-- `LD E,(HL)` (R152). -/
def execLdEAtHl (s : State) : Result := loadRegAtHl .e s

/-- `LD E,A` (R150). -/
def execLdEA (s : State) : Result := loadRegReg .e .a s

/-- `LD H,B` (R150). -/
def execLdHB (s : State) : Result := loadRegReg .h .b s

/-- `LD H,C` (R150). -/
def execLdHC (s : State) : Result := loadRegReg .h .c s

/-- `LD H,D` (R150). -/
def execLdHD (s : State) : Result := loadRegReg .h .d s

/-- `LD H,E` (R150). -/
def execLdHE (s : State) : Result := loadRegReg .h .e s

/-- `LD H,H` (R150). -/
def execLdHH (s : State) : Result := loadRegReg .h .h s

/-- `LD H,L` (R150). -/
def execLdHL (s : State) : Result := loadRegReg .h .l s

/-- `LD H,(HL)` (R152). -/
def execLdHAtHl (s : State) : Result := loadRegAtHl .h s

/-- `LD H,A` (R150). -/
def execLdHA (s : State) : Result := loadRegReg .h .a s

/-- `LD L,B` (R150). -/
def execLdLB (s : State) : Result := loadRegReg .l .b s

/-- `LD L,C` (R150). -/
def execLdLC (s : State) : Result := loadRegReg .l .c s

/-- `LD L,D` (R150). -/
def execLdLD (s : State) : Result := loadRegReg .l .d s

/-- `LD L,E` (R150). -/
def execLdLE (s : State) : Result := loadRegReg .l .e s

/-- `LD L,H` (R150). -/
def execLdLH (s : State) : Result := loadRegReg .l .h s

/-- `LD L,L` (R150). -/
def execLdLL (s : State) : Result := loadRegReg .l .l s

/-- `LD L,(HL)` (R152). -/
def execLdLAtHl (s : State) : Result := loadRegAtHl .l s

/-- `LD L,A` (R150). -/
def execLdLA (s : State) : Result := loadRegReg .l .a s

/-- `LD (HL),B` (R153). -/
def execLdAtHlB (s : State) : Result := storeAtHlReg .b s

/-- `LD (HL),C` (R153). -/
def execLdAtHlC (s : State) : Result := storeAtHlReg .c s

/-- `LD (HL),D` (R153). -/
def execLdAtHlD (s : State) : Result := storeAtHlReg .d s

/-- `LD (HL),E` (R153). -/
def execLdAtHlE (s : State) : Result := storeAtHlReg .e s

/-- `LD (HL),H` (R153). -/
def execLdAtHlH (s : State) : Result := storeAtHlReg .h s

/-- `LD (HL),L` (R153). -/
def execLdAtHlL (s : State) : Result := storeAtHlReg .l s

/-- `LD (HL),A` (R153). -/
def execLdAtHlA (s : State) : Result := storeAtHlReg .a s

/-- `LD A,B` (R150). -/
def execLdAB (s : State) : Result := loadRegReg .a .b s

/-- `LD A,C` (R150). -/
def execLdAC (s : State) : Result := loadRegReg .a .c s

/-- `LD A,D` (R150). -/
def execLdAD (s : State) : Result := loadRegReg .a .d s

/-- `LD A,E` (R150). -/
def execLdAE (s : State) : Result := loadRegReg .a .e s

/-- `LD A,H` (R150). -/
def execLdAH (s : State) : Result := loadRegReg .a .h s

/-- `LD A,L` (R150). -/
def execLdAL (s : State) : Result := loadRegReg .a .l s

/-- `LD A,(HL)` (R152). -/
def execLdAAtHl (s : State) : Result := loadRegAtHl .a s

/-- `LD A,A` (R150). -/
def execLdAA (s : State) : Result := loadRegReg .a .a s

/-- `LDH (n8),A` (R164). -/
def execLdhAtN8A (n : Byte) (s : State) : Result := storeAHigh n s

/-- `LDH (C),A` (R162). -/
def execLdhAtCA (s : State) : Result := storeAHighC s

/-- `LD (n16),A` (R160). -/
def execLdAtN16A (n : Addr) (s : State) : Result := storeAAbs n s

/-- `LDH A,(n8)` (R163). -/
def execLdhAAtN8 (n : Byte) (s : State) : Result := loadAHigh n s

/-- `LDH A,(C)` (R161). -/
def execLdhAAtC (s : State) : Result := loadAHighC s

/-- `LD A,(n16)` (R159). -/
def execLdAAtN16 (n : Addr) (s : State) : Result := loadAAbs n s

end Sys2Proof.Machine
end

