-- ==== Sys2Proof/Machine/Load16.lean ====
section
/-! DEFINITION. The 16-bit loads and the stack instructions (spec/41_load16_stack.md, R180 to R185). -/

namespace Sys2Proof.Machine

/-- LD rr,n16 (R180). -/
def loadPair (r : Reg16) (n : Addr) (s : State) : Result :=
  .next (((s.fetched 3).setReg16 r n).tick 12)

/-- LD (n16),SP (R181). -/
def storeSp (n : Addr) (s : State) : Result :=
  ((s.fetched 3).write16 n s.sp).thenTick 20

/-- LD SP,HL (R182). -/
def loadSpHl (s : State) : Result :=
  .next ((({ s.fetched 1 with sp := s.hl }) : State).tick 8)

/-- LD HL,SP+e8 (R183). -/
def loadHlSpPlus (e : Byte) (s : State) : Result :=
  .next ((((s.fetched 2).setHl (spPlus s.sp e)).setFlags false false (spPlusH s.sp e) (spPlusC s.sp e)).tick 12)

/-- PUSH rr (R184). -/
def pushPair (r : StackReg) (s : State) : Result :=
  ((s.fetched 1).push16 (s.stackReg r)).thenTick 16

/-- POP rr (R185). -/
def popPair (r : StackReg) (s : State) : Result :=
  .next (((s.fetched 1).popped.setStackReg r s.popValue).tick 12)

/-! ## The meanings -/

/-- `LD BC,n16` (R180). -/
def execLdBcN16 (n : Addr) (s : State) : Result := loadPair .bc n s

/-- `LD (n16),SP` (R181). -/
def execLdAtN16Sp (n : Addr) (s : State) : Result := storeSp n s

/-- `LD DE,n16` (R180). -/
def execLdDeN16 (n : Addr) (s : State) : Result := loadPair .de n s

/-- `LD HL,n16` (R180). -/
def execLdHlN16 (n : Addr) (s : State) : Result := loadPair .hl n s

/-- `LD SP,n16` (R180). -/
def execLdSpN16 (n : Addr) (s : State) : Result := loadPair .sp n s

/-- `POP BC` (R185). -/
def execPopBc (s : State) : Result := popPair .bc s

/-- `PUSH BC` (R184). -/
def execPushBc (s : State) : Result := pushPair .bc s

/-- `POP DE` (R185). -/
def execPopDe (s : State) : Result := popPair .de s

/-- `PUSH DE` (R184). -/
def execPushDe (s : State) : Result := pushPair .de s

/-- `POP HL` (R185). -/
def execPopHl (s : State) : Result := popPair .hl s

/-- `PUSH HL` (R184). -/
def execPushHl (s : State) : Result := pushPair .hl s

/-- `POP AF` (R185). -/
def execPopAf (s : State) : Result := popPair .af s

/-- `PUSH AF` (R184). -/
def execPushAf (s : State) : Result := pushPair .af s

/-- `LD HL,SP+e8` (R183). -/
def execLdHlSpE8 (e : Byte) (s : State) : Result := loadHlSpPlus e s

/-- `LD SP,HL` (R182). -/
def execLdSpHl (s : State) : Result := loadSpHl s

end Sys2Proof.Machine
end

