-- ==== Sys2Proof/Machine/Alu8.lean ====
section
/-! DEFINITION. The 8-bit arithmetic and logic instructions (spec/42_alu8.md, R200 to R216). -/

namespace Sys2Proof.Machine

/-- The accumulator operation `op` on A and `v` (R200): A and all four flags. -/
def State.applyAlu (s : State) (op : AluOp) (v : Byte) : State :=
  ({ s with a := (aluFlags op s.a v s.flagC).value } : State).withFlags (aluFlags op s.a v s.flagC)

/-- op A,r and op A,(HL) (R200 to R208). -/
def aluOperand (op : AluOp) (t : Operand) (s : State) : Result :=
  .next (((s.fetched 1).applyAlu op (s.readOperand t)).tick (operandCost t 4 8))

/-- op A,n8 (R200 to R208). -/
def aluImm (op : AluOp) (n : Byte) (s : State) : Result :=
  .next (((s.fetched 2).applyAlu op n).tick 8)

/-- INC r (R209) and INC (HL) (R210): one read, then one write of the same operand. -/
def incOperand (t : Operand) (s : State) : Result :=
  let r := incFlags (s.readOperand t) s.flagC
  (((s.fetched 1).withFlags r).writeOperand t r.value).thenTick (operandCost t 4 12)

/-- DEC r (R211) and DEC (HL) (R212). -/
def decOperand (t : Operand) (s : State) : Result :=
  let r := decFlags (s.readOperand t) s.flagC
  (((s.fetched 1).withFlags r).writeOperand t r.value).thenTick (operandCost t 4 12)

/-- DAA (R213). -/
def decimalAdjust (s : State) : Result :=
  let r := daaFlags s.a s.flagN s.flagH s.flagC
  .next ((({ s.fetched 1 with a := r.value } : State).withFlags r).tick 4)

/-- CPL (R214). -/
def complementA (s : State) : Result :=
  .next ((({ s.fetched 1 with a := s.a ^^^ 0xFF } : State).setFlags s.flagZ true true s.flagC).tick 4)

/-- SCF (R215). -/
def setCarry (s : State) : Result :=
  .next (((s.fetched 1).setFlags s.flagZ false false true).tick 4)

/-- CCF (R216). -/
def complementCarry (s : State) : Result :=
  .next (((s.fetched 1).setFlags s.flagZ false false (!s.flagC)).tick 4)

/-! ## The meanings -/

/-- `INC B` (R209). -/
def execIncB (s : State) : Result := incOperand (.reg .b) s

/-- `DEC B` (R211). -/
def execDecB (s : State) : Result := decOperand (.reg .b) s

/-- `INC C` (R209). -/
def execIncC (s : State) : Result := incOperand (.reg .c) s

/-- `DEC C` (R211). -/
def execDecC (s : State) : Result := decOperand (.reg .c) s

/-- `INC D` (R209). -/
def execIncD (s : State) : Result := incOperand (.reg .d) s

/-- `DEC D` (R211). -/
def execDecD (s : State) : Result := decOperand (.reg .d) s

/-- `INC E` (R209). -/
def execIncE (s : State) : Result := incOperand (.reg .e) s

/-- `DEC E` (R211). -/
def execDecE (s : State) : Result := decOperand (.reg .e) s

/-- `INC H` (R209). -/
def execIncH (s : State) : Result := incOperand (.reg .h) s

/-- `DEC H` (R211). -/
def execDecH (s : State) : Result := decOperand (.reg .h) s

/-- `DAA` (R213). -/
def execDaa (s : State) : Result := decimalAdjust s

/-- `INC L` (R209). -/
def execIncL (s : State) : Result := incOperand (.reg .l) s

/-- `DEC L` (R211). -/
def execDecL (s : State) : Result := decOperand (.reg .l) s

/-- `CPL` (R214). -/
def execCpl (s : State) : Result := complementA s

/-- `INC (HL)` (R210). -/
def execIncAtHl (s : State) : Result := incOperand .atHl s

/-- `DEC (HL)` (R212). -/
def execDecAtHl (s : State) : Result := decOperand .atHl s

/-- `SCF` (R215). -/
def execScf (s : State) : Result := setCarry s

/-- `INC A` (R209). -/
def execIncA (s : State) : Result := incOperand (.reg .a) s

/-- `DEC A` (R211). -/
def execDecA (s : State) : Result := decOperand (.reg .a) s

/-- `CCF` (R216). -/
def execCcf (s : State) : Result := complementCarry s

/-- `ADD A,B` (R201). -/
def execAddAB (s : State) : Result := aluOperand .add (.reg .b) s

/-- `ADD A,C` (R201). -/
def execAddAC (s : State) : Result := aluOperand .add (.reg .c) s

/-- `ADD A,D` (R201). -/
def execAddAD (s : State) : Result := aluOperand .add (.reg .d) s

/-- `ADD A,E` (R201). -/
def execAddAE (s : State) : Result := aluOperand .add (.reg .e) s

/-- `ADD A,H` (R201). -/
def execAddAH (s : State) : Result := aluOperand .add (.reg .h) s

/-- `ADD A,L` (R201). -/
def execAddAL (s : State) : Result := aluOperand .add (.reg .l) s

/-- `ADD A,(HL)` (R201). -/
def execAddAAtHl (s : State) : Result := aluOperand .add .atHl s

/-- `ADD A,A` (R201). -/
def execAddAA (s : State) : Result := aluOperand .add (.reg .a) s

/-- `ADC A,B` (R202). -/
def execAdcAB (s : State) : Result := aluOperand .adc (.reg .b) s

/-- `ADC A,C` (R202). -/
def execAdcAC (s : State) : Result := aluOperand .adc (.reg .c) s

/-- `ADC A,D` (R202). -/
def execAdcAD (s : State) : Result := aluOperand .adc (.reg .d) s

/-- `ADC A,E` (R202). -/
def execAdcAE (s : State) : Result := aluOperand .adc (.reg .e) s

/-- `ADC A,H` (R202). -/
def execAdcAH (s : State) : Result := aluOperand .adc (.reg .h) s

/-- `ADC A,L` (R202). -/
def execAdcAL (s : State) : Result := aluOperand .adc (.reg .l) s

/-- `ADC A,(HL)` (R202). -/
def execAdcAAtHl (s : State) : Result := aluOperand .adc .atHl s

/-- `ADC A,A` (R202). -/
def execAdcAA (s : State) : Result := aluOperand .adc (.reg .a) s

/-- `SUB B` (R203). -/
def execSubB (s : State) : Result := aluOperand .sub (.reg .b) s

/-- `SUB C` (R203). -/
def execSubC (s : State) : Result := aluOperand .sub (.reg .c) s

/-- `SUB D` (R203). -/
def execSubD (s : State) : Result := aluOperand .sub (.reg .d) s

/-- `SUB E` (R203). -/
def execSubE (s : State) : Result := aluOperand .sub (.reg .e) s

/-- `SUB H` (R203). -/
def execSubH (s : State) : Result := aluOperand .sub (.reg .h) s

/-- `SUB L` (R203). -/
def execSubL (s : State) : Result := aluOperand .sub (.reg .l) s

/-- `SUB (HL)` (R203). -/
def execSubAtHl (s : State) : Result := aluOperand .sub .atHl s

/-- `SUB A` (R203). -/
def execSubA (s : State) : Result := aluOperand .sub (.reg .a) s

/-- `SBC A,B` (R204). -/
def execSbcAB (s : State) : Result := aluOperand .sbc (.reg .b) s

/-- `SBC A,C` (R204). -/
def execSbcAC (s : State) : Result := aluOperand .sbc (.reg .c) s

/-- `SBC A,D` (R204). -/
def execSbcAD (s : State) : Result := aluOperand .sbc (.reg .d) s

/-- `SBC A,E` (R204). -/
def execSbcAE (s : State) : Result := aluOperand .sbc (.reg .e) s

/-- `SBC A,H` (R204). -/
def execSbcAH (s : State) : Result := aluOperand .sbc (.reg .h) s

/-- `SBC A,L` (R204). -/
def execSbcAL (s : State) : Result := aluOperand .sbc (.reg .l) s

/-- `SBC A,(HL)` (R204). -/
def execSbcAAtHl (s : State) : Result := aluOperand .sbc .atHl s

/-- `SBC A,A` (R204). -/
def execSbcAA (s : State) : Result := aluOperand .sbc (.reg .a) s

/-- `AND B` (R205). -/
def execAndB (s : State) : Result := aluOperand .and (.reg .b) s

/-- `AND C` (R205). -/
def execAndC (s : State) : Result := aluOperand .and (.reg .c) s

/-- `AND D` (R205). -/
def execAndD (s : State) : Result := aluOperand .and (.reg .d) s

/-- `AND E` (R205). -/
def execAndE (s : State) : Result := aluOperand .and (.reg .e) s

/-- `AND H` (R205). -/
def execAndH (s : State) : Result := aluOperand .and (.reg .h) s

/-- `AND L` (R205). -/
def execAndL (s : State) : Result := aluOperand .and (.reg .l) s

/-- `AND (HL)` (R205). -/
def execAndAtHl (s : State) : Result := aluOperand .and .atHl s

/-- `AND A` (R205). -/
def execAndA (s : State) : Result := aluOperand .and (.reg .a) s

/-- `XOR B` (R206). -/
def execXorB (s : State) : Result := aluOperand .xor (.reg .b) s

/-- `XOR C` (R206). -/
def execXorC (s : State) : Result := aluOperand .xor (.reg .c) s

/-- `XOR D` (R206). -/
def execXorD (s : State) : Result := aluOperand .xor (.reg .d) s

/-- `XOR E` (R206). -/
def execXorE (s : State) : Result := aluOperand .xor (.reg .e) s

/-- `XOR H` (R206). -/
def execXorH (s : State) : Result := aluOperand .xor (.reg .h) s

/-- `XOR L` (R206). -/
def execXorL (s : State) : Result := aluOperand .xor (.reg .l) s

/-- `XOR (HL)` (R206). -/
def execXorAtHl (s : State) : Result := aluOperand .xor .atHl s

/-- `XOR A` (R206). -/
def execXorA (s : State) : Result := aluOperand .xor (.reg .a) s

/-- `OR B` (R207). -/
def execOrB (s : State) : Result := aluOperand .or (.reg .b) s

/-- `OR C` (R207). -/
def execOrC (s : State) : Result := aluOperand .or (.reg .c) s

/-- `OR D` (R207). -/
def execOrD (s : State) : Result := aluOperand .or (.reg .d) s

/-- `OR E` (R207). -/
def execOrE (s : State) : Result := aluOperand .or (.reg .e) s

/-- `OR H` (R207). -/
def execOrH (s : State) : Result := aluOperand .or (.reg .h) s

/-- `OR L` (R207). -/
def execOrL (s : State) : Result := aluOperand .or (.reg .l) s

/-- `OR (HL)` (R207). -/
def execOrAtHl (s : State) : Result := aluOperand .or .atHl s

/-- `OR A` (R207). -/
def execOrA (s : State) : Result := aluOperand .or (.reg .a) s

/-- `CP B` (R208). -/
def execCpB (s : State) : Result := aluOperand .cp (.reg .b) s

/-- `CP C` (R208). -/
def execCpC (s : State) : Result := aluOperand .cp (.reg .c) s

/-- `CP D` (R208). -/
def execCpD (s : State) : Result := aluOperand .cp (.reg .d) s

/-- `CP E` (R208). -/
def execCpE (s : State) : Result := aluOperand .cp (.reg .e) s

/-- `CP H` (R208). -/
def execCpH (s : State) : Result := aluOperand .cp (.reg .h) s

/-- `CP L` (R208). -/
def execCpL (s : State) : Result := aluOperand .cp (.reg .l) s

/-- `CP (HL)` (R208). -/
def execCpAtHl (s : State) : Result := aluOperand .cp .atHl s

/-- `CP A` (R208). -/
def execCpA (s : State) : Result := aluOperand .cp (.reg .a) s

/-- `ADD A,n8` (R201). -/
def execAddAN8 (n : Byte) (s : State) : Result := aluImm .add n s

/-- `ADC A,n8` (R202). -/
def execAdcAN8 (n : Byte) (s : State) : Result := aluImm .adc n s

/-- `SUB n8` (R203). -/
def execSubN8 (n : Byte) (s : State) : Result := aluImm .sub n s

/-- `SBC A,n8` (R204). -/
def execSbcAN8 (n : Byte) (s : State) : Result := aluImm .sbc n s

/-- `AND n8` (R205). -/
def execAndN8 (n : Byte) (s : State) : Result := aluImm .and n s

/-- `XOR n8` (R206). -/
def execXorN8 (n : Byte) (s : State) : Result := aluImm .xor n s

/-- `OR n8` (R207). -/
def execOrN8 (n : Byte) (s : State) : Result := aluImm .or n s

/-- `CP n8` (R208). -/
def execCpN8 (n : Byte) (s : State) : Result := aluImm .cp n s

end Sys2Proof.Machine
end

