-- ==== Sys2Proof/Machine/Alu16.lean ====
section
/-! DEFINITION. The 16-bit arithmetic instructions (spec/43_alu16.md, R230 to R233). -/

namespace Sys2Proof.Machine

/-- ADD HL,rr (R230): both operands are read before HL is written. -/
def addHl (r : Reg16) (s : State) : Result :=
  .next ((((s.fetched 1).setHl (s.hl + s.reg16 r)).setFlags s.flagZ false (add16H s.hl (s.reg16 r))
    (add16C s.hl (s.reg16 r))).tick 8)

/-- INC rr (R231). -/
def incPair (r : Reg16) (s : State) : Result :=
  .next (((s.fetched 1).setReg16 r (s.reg16 r + 1)).tick 8)

/-- DEC rr (R232). -/
def decPair (r : Reg16) (s : State) : Result :=
  .next (((s.fetched 1).setReg16 r (s.reg16 r - 1)).tick 8)

/-- ADD SP,e8 (R233): the carries are those of the old SP. -/
def addSp (e : Byte) (s : State) : Result :=
  .next ((({ s.fetched 2 with sp := spPlus s.sp e } : State).setFlags false false (spPlusH s.sp e)
    (spPlusC s.sp e)).tick 16)

/-! ## The meanings -/

/-- `INC BC` (R231). -/
def execIncBc (s : State) : Result := incPair .bc s

/-- `ADD HL,BC` (R230). -/
def execAddHlBc (s : State) : Result := addHl .bc s

/-- `DEC BC` (R232). -/
def execDecBc (s : State) : Result := decPair .bc s

/-- `INC DE` (R231). -/
def execIncDe (s : State) : Result := incPair .de s

/-- `ADD HL,DE` (R230). -/
def execAddHlDe (s : State) : Result := addHl .de s

/-- `DEC DE` (R232). -/
def execDecDe (s : State) : Result := decPair .de s

/-- `INC HL` (R231). -/
def execIncHl (s : State) : Result := incPair .hl s

/-- `ADD HL,HL` (R230). -/
def execAddHlHl (s : State) : Result := addHl .hl s

/-- `DEC HL` (R232). -/
def execDecHl (s : State) : Result := decPair .hl s

/-- `INC SP` (R231). -/
def execIncSp (s : State) : Result := incPair .sp s

/-- `ADD HL,SP` (R230). -/
def execAddHlSp (s : State) : Result := addHl .sp s

/-- `DEC SP` (R232). -/
def execDecSp (s : State) : Result := decPair .sp s

/-- `ADD SP,e8` (R233). -/
def execAddSpE8 (e : Byte) (s : State) : Result := addSp e s

end Sys2Proof.Machine
end

