-- ==== Sys2Proof/Machine/RotateShiftBit.lean ====
section
/-! DEFINITION. The rotates, shifts and bit operations (spec/44_rotate_shift_bit.md, R240 to R255). -/

namespace Sys2Proof.Machine

/-- RLCA, RRCA, RLA, RRA (R240 to R243): the rotate of A with Z always cleared. -/
def rotateA (o : RotOp) (s : State) : Result :=
  let w := rotValue o s.a s.flagC
  .next ((({ s.fetched 1 with a := w.1 } : State).setFlags false false false w.2).tick 4)

/-- The prefixed rotates and shifts (R245 to R252). -/
def rotateOperand (o : RotOp) (t : Operand) (s : State) : Result :=
  let r := rotFlags o (s.readOperand t) s.flagC
  (((s.fetched 2).withFlags r).writeOperand t r.value).thenTick (operandCost t 8 16)

/-- BIT b,t (R253): the operand is not written. -/
def testBit (b : Fin 8) (t : Operand) (s : State) : Result :=
  .next (((s.fetched 2).setFlags (!(s.readOperand t).getLsbD b.val) false true s.flagC).tick (operandCost t 8 12))

/-- RES b,t (R254): the write is performed also when the bit was clear. -/
def resetBit (b : Fin 8) (t : Operand) (s : State) : Result :=
  ((s.fetched 2).writeOperand t (s.readOperand t &&& ~~~(bitMask b))).thenTick (operandCost t 8 16)

/-- SET b,t (R255). -/
def setBit (b : Fin 8) (t : Operand) (s : State) : Result :=
  ((s.fetched 2).writeOperand t (s.readOperand t ||| bitMask b)).thenTick (operandCost t 8 16)

/-! ## The meanings -/

/-- `RLCA` (R240). -/
def execRlca (s : State) : Result := rotateA .rlc s

/-- `RRCA` (R241). -/
def execRrca (s : State) : Result := rotateA .rrc s

/-- `RLA` (R242). -/
def execRla (s : State) : Result := rotateA .rl s

/-- `RRA` (R243). -/
def execRra (s : State) : Result := rotateA .rr s

/-- `RLC B` (R245). -/
def execRlcB (s : State) : Result := rotateOperand .rlc (.reg .b) s

/-- `RLC C` (R245). -/
def execRlcC (s : State) : Result := rotateOperand .rlc (.reg .c) s

/-- `RLC D` (R245). -/
def execRlcD (s : State) : Result := rotateOperand .rlc (.reg .d) s

/-- `RLC E` (R245). -/
def execRlcE (s : State) : Result := rotateOperand .rlc (.reg .e) s

/-- `RLC H` (R245). -/
def execRlcH (s : State) : Result := rotateOperand .rlc (.reg .h) s

/-- `RLC L` (R245). -/
def execRlcL (s : State) : Result := rotateOperand .rlc (.reg .l) s

/-- `RLC (HL)` (R245). -/
def execRlcAtHl (s : State) : Result := rotateOperand .rlc .atHl s

/-- `RLC A` (R245). -/
def execRlcA (s : State) : Result := rotateOperand .rlc (.reg .a) s

/-- `RRC B` (R246). -/
def execRrcB (s : State) : Result := rotateOperand .rrc (.reg .b) s

/-- `RRC C` (R246). -/
def execRrcC (s : State) : Result := rotateOperand .rrc (.reg .c) s

/-- `RRC D` (R246). -/
def execRrcD (s : State) : Result := rotateOperand .rrc (.reg .d) s

/-- `RRC E` (R246). -/
def execRrcE (s : State) : Result := rotateOperand .rrc (.reg .e) s

/-- `RRC H` (R246). -/
def execRrcH (s : State) : Result := rotateOperand .rrc (.reg .h) s

/-- `RRC L` (R246). -/
def execRrcL (s : State) : Result := rotateOperand .rrc (.reg .l) s

/-- `RRC (HL)` (R246). -/
def execRrcAtHl (s : State) : Result := rotateOperand .rrc .atHl s

/-- `RRC A` (R246). -/
def execRrcA (s : State) : Result := rotateOperand .rrc (.reg .a) s

/-- `RL B` (R247). -/
def execRlB (s : State) : Result := rotateOperand .rl (.reg .b) s

/-- `RL C` (R247). -/
def execRlC (s : State) : Result := rotateOperand .rl (.reg .c) s

/-- `RL D` (R247). -/
def execRlD (s : State) : Result := rotateOperand .rl (.reg .d) s

/-- `RL E` (R247). -/
def execRlE (s : State) : Result := rotateOperand .rl (.reg .e) s

/-- `RL H` (R247). -/
def execRlH (s : State) : Result := rotateOperand .rl (.reg .h) s

/-- `RL L` (R247). -/
def execRlL (s : State) : Result := rotateOperand .rl (.reg .l) s

/-- `RL (HL)` (R247). -/
def execRlAtHl (s : State) : Result := rotateOperand .rl .atHl s

/-- `RL A` (R247). -/
def execRlA (s : State) : Result := rotateOperand .rl (.reg .a) s

/-- `RR B` (R248). -/
def execRrB (s : State) : Result := rotateOperand .rr (.reg .b) s

/-- `RR C` (R248). -/
def execRrC (s : State) : Result := rotateOperand .rr (.reg .c) s

/-- `RR D` (R248). -/
def execRrD (s : State) : Result := rotateOperand .rr (.reg .d) s

/-- `RR E` (R248). -/
def execRrE (s : State) : Result := rotateOperand .rr (.reg .e) s

/-- `RR H` (R248). -/
def execRrH (s : State) : Result := rotateOperand .rr (.reg .h) s

/-- `RR L` (R248). -/
def execRrL (s : State) : Result := rotateOperand .rr (.reg .l) s

/-- `RR (HL)` (R248). -/
def execRrAtHl (s : State) : Result := rotateOperand .rr .atHl s

/-- `RR A` (R248). -/
def execRrA (s : State) : Result := rotateOperand .rr (.reg .a) s

/-- `SLA B` (R249). -/
def execSlaB (s : State) : Result := rotateOperand .sla (.reg .b) s

/-- `SLA C` (R249). -/
def execSlaC (s : State) : Result := rotateOperand .sla (.reg .c) s

/-- `SLA D` (R249). -/
def execSlaD (s : State) : Result := rotateOperand .sla (.reg .d) s

/-- `SLA E` (R249). -/
def execSlaE (s : State) : Result := rotateOperand .sla (.reg .e) s

/-- `SLA H` (R249). -/
def execSlaH (s : State) : Result := rotateOperand .sla (.reg .h) s

/-- `SLA L` (R249). -/
def execSlaL (s : State) : Result := rotateOperand .sla (.reg .l) s

/-- `SLA (HL)` (R249). -/
def execSlaAtHl (s : State) : Result := rotateOperand .sla .atHl s

/-- `SLA A` (R249). -/
def execSlaA (s : State) : Result := rotateOperand .sla (.reg .a) s

/-- `SRA B` (R250). -/
def execSraB (s : State) : Result := rotateOperand .sra (.reg .b) s

/-- `SRA C` (R250). -/
def execSraC (s : State) : Result := rotateOperand .sra (.reg .c) s

/-- `SRA D` (R250). -/
def execSraD (s : State) : Result := rotateOperand .sra (.reg .d) s

/-- `SRA E` (R250). -/
def execSraE (s : State) : Result := rotateOperand .sra (.reg .e) s

/-- `SRA H` (R250). -/
def execSraH (s : State) : Result := rotateOperand .sra (.reg .h) s

/-- `SRA L` (R250). -/
def execSraL (s : State) : Result := rotateOperand .sra (.reg .l) s

/-- `SRA (HL)` (R250). -/
def execSraAtHl (s : State) : Result := rotateOperand .sra .atHl s

/-- `SRA A` (R250). -/
def execSraA (s : State) : Result := rotateOperand .sra (.reg .a) s

/-- `SWAP B` (R251). -/
def execSwapB (s : State) : Result := rotateOperand .swap (.reg .b) s

/-- `SWAP C` (R251). -/
def execSwapC (s : State) : Result := rotateOperand .swap (.reg .c) s

/-- `SWAP D` (R251). -/
def execSwapD (s : State) : Result := rotateOperand .swap (.reg .d) s

/-- `SWAP E` (R251). -/
def execSwapE (s : State) : Result := rotateOperand .swap (.reg .e) s

/-- `SWAP H` (R251). -/
def execSwapH (s : State) : Result := rotateOperand .swap (.reg .h) s

/-- `SWAP L` (R251). -/
def execSwapL (s : State) : Result := rotateOperand .swap (.reg .l) s

/-- `SWAP (HL)` (R251). -/
def execSwapAtHl (s : State) : Result := rotateOperand .swap .atHl s

/-- `SWAP A` (R251). -/
def execSwapA (s : State) : Result := rotateOperand .swap (.reg .a) s

/-- `SRL B` (R252). -/
def execSrlB (s : State) : Result := rotateOperand .srl (.reg .b) s

/-- `SRL C` (R252). -/
def execSrlC (s : State) : Result := rotateOperand .srl (.reg .c) s

/-- `SRL D` (R252). -/
def execSrlD (s : State) : Result := rotateOperand .srl (.reg .d) s

/-- `SRL E` (R252). -/
def execSrlE (s : State) : Result := rotateOperand .srl (.reg .e) s

/-- `SRL H` (R252). -/
def execSrlH (s : State) : Result := rotateOperand .srl (.reg .h) s

/-- `SRL L` (R252). -/
def execSrlL (s : State) : Result := rotateOperand .srl (.reg .l) s

/-- `SRL (HL)` (R252). -/
def execSrlAtHl (s : State) : Result := rotateOperand .srl .atHl s

/-- `SRL A` (R252). -/
def execSrlA (s : State) : Result := rotateOperand .srl (.reg .a) s

/-- `BIT 0,B` (R253). -/
def execBit0B (s : State) : Result := testBit 0 (.reg .b) s

/-- `BIT 0,C` (R253). -/
def execBit0C (s : State) : Result := testBit 0 (.reg .c) s

/-- `BIT 0,D` (R253). -/
def execBit0D (s : State) : Result := testBit 0 (.reg .d) s

/-- `BIT 0,E` (R253). -/
def execBit0E (s : State) : Result := testBit 0 (.reg .e) s

/-- `BIT 0,H` (R253). -/
def execBit0H (s : State) : Result := testBit 0 (.reg .h) s

/-- `BIT 0,L` (R253). -/
def execBit0L (s : State) : Result := testBit 0 (.reg .l) s

/-- `BIT 0,(HL)` (R253). -/
def execBit0AtHl (s : State) : Result := testBit 0 .atHl s

/-- `BIT 0,A` (R253). -/
def execBit0A (s : State) : Result := testBit 0 (.reg .a) s

/-- `BIT 1,B` (R253). -/
def execBit1B (s : State) : Result := testBit 1 (.reg .b) s

/-- `BIT 1,C` (R253). -/
def execBit1C (s : State) : Result := testBit 1 (.reg .c) s

/-- `BIT 1,D` (R253). -/
def execBit1D (s : State) : Result := testBit 1 (.reg .d) s

/-- `BIT 1,E` (R253). -/
def execBit1E (s : State) : Result := testBit 1 (.reg .e) s

/-- `BIT 1,H` (R253). -/
def execBit1H (s : State) : Result := testBit 1 (.reg .h) s

/-- `BIT 1,L` (R253). -/
def execBit1L (s : State) : Result := testBit 1 (.reg .l) s

/-- `BIT 1,(HL)` (R253). -/
def execBit1AtHl (s : State) : Result := testBit 1 .atHl s

/-- `BIT 1,A` (R253). -/
def execBit1A (s : State) : Result := testBit 1 (.reg .a) s

/-- `BIT 2,B` (R253). -/
def execBit2B (s : State) : Result := testBit 2 (.reg .b) s

/-- `BIT 2,C` (R253). -/
def execBit2C (s : State) : Result := testBit 2 (.reg .c) s

/-- `BIT 2,D` (R253). -/
def execBit2D (s : State) : Result := testBit 2 (.reg .d) s

/-- `BIT 2,E` (R253). -/
def execBit2E (s : State) : Result := testBit 2 (.reg .e) s

/-- `BIT 2,H` (R253). -/
def execBit2H (s : State) : Result := testBit 2 (.reg .h) s

/-- `BIT 2,L` (R253). -/
def execBit2L (s : State) : Result := testBit 2 (.reg .l) s

/-- `BIT 2,(HL)` (R253). -/
def execBit2AtHl (s : State) : Result := testBit 2 .atHl s

/-- `BIT 2,A` (R253). -/
def execBit2A (s : State) : Result := testBit 2 (.reg .a) s

/-- `BIT 3,B` (R253). -/
def execBit3B (s : State) : Result := testBit 3 (.reg .b) s

/-- `BIT 3,C` (R253). -/
def execBit3C (s : State) : Result := testBit 3 (.reg .c) s

/-- `BIT 3,D` (R253). -/
def execBit3D (s : State) : Result := testBit 3 (.reg .d) s

/-- `BIT 3,E` (R253). -/
def execBit3E (s : State) : Result := testBit 3 (.reg .e) s

/-- `BIT 3,H` (R253). -/
def execBit3H (s : State) : Result := testBit 3 (.reg .h) s

/-- `BIT 3,L` (R253). -/
def execBit3L (s : State) : Result := testBit 3 (.reg .l) s

/-- `BIT 3,(HL)` (R253). -/
def execBit3AtHl (s : State) : Result := testBit 3 .atHl s

/-- `BIT 3,A` (R253). -/
def execBit3A (s : State) : Result := testBit 3 (.reg .a) s

/-- `BIT 4,B` (R253). -/
def execBit4B (s : State) : Result := testBit 4 (.reg .b) s

/-- `BIT 4,C` (R253). -/
def execBit4C (s : State) : Result := testBit 4 (.reg .c) s

/-- `BIT 4,D` (R253). -/
def execBit4D (s : State) : Result := testBit 4 (.reg .d) s

/-- `BIT 4,E` (R253). -/
def execBit4E (s : State) : Result := testBit 4 (.reg .e) s

/-- `BIT 4,H` (R253). -/
def execBit4H (s : State) : Result := testBit 4 (.reg .h) s

/-- `BIT 4,L` (R253). -/
def execBit4L (s : State) : Result := testBit 4 (.reg .l) s

/-- `BIT 4,(HL)` (R253). -/
def execBit4AtHl (s : State) : Result := testBit 4 .atHl s

/-- `BIT 4,A` (R253). -/
def execBit4A (s : State) : Result := testBit 4 (.reg .a) s

/-- `BIT 5,B` (R253). -/
def execBit5B (s : State) : Result := testBit 5 (.reg .b) s

/-- `BIT 5,C` (R253). -/
def execBit5C (s : State) : Result := testBit 5 (.reg .c) s

/-- `BIT 5,D` (R253). -/
def execBit5D (s : State) : Result := testBit 5 (.reg .d) s

/-- `BIT 5,E` (R253). -/
def execBit5E (s : State) : Result := testBit 5 (.reg .e) s

/-- `BIT 5,H` (R253). -/
def execBit5H (s : State) : Result := testBit 5 (.reg .h) s

/-- `BIT 5,L` (R253). -/
def execBit5L (s : State) : Result := testBit 5 (.reg .l) s

/-- `BIT 5,(HL)` (R253). -/
def execBit5AtHl (s : State) : Result := testBit 5 .atHl s

/-- `BIT 5,A` (R253). -/
def execBit5A (s : State) : Result := testBit 5 (.reg .a) s

/-- `BIT 6,B` (R253). -/
def execBit6B (s : State) : Result := testBit 6 (.reg .b) s

/-- `BIT 6,C` (R253). -/
def execBit6C (s : State) : Result := testBit 6 (.reg .c) s

/-- `BIT 6,D` (R253). -/
def execBit6D (s : State) : Result := testBit 6 (.reg .d) s

/-- `BIT 6,E` (R253). -/
def execBit6E (s : State) : Result := testBit 6 (.reg .e) s

/-- `BIT 6,H` (R253). -/
def execBit6H (s : State) : Result := testBit 6 (.reg .h) s

/-- `BIT 6,L` (R253). -/
def execBit6L (s : State) : Result := testBit 6 (.reg .l) s

/-- `BIT 6,(HL)` (R253). -/
def execBit6AtHl (s : State) : Result := testBit 6 .atHl s

/-- `BIT 6,A` (R253). -/
def execBit6A (s : State) : Result := testBit 6 (.reg .a) s

/-- `BIT 7,B` (R253). -/
def execBit7B (s : State) : Result := testBit 7 (.reg .b) s

/-- `BIT 7,C` (R253). -/
def execBit7C (s : State) : Result := testBit 7 (.reg .c) s

/-- `BIT 7,D` (R253). -/
def execBit7D (s : State) : Result := testBit 7 (.reg .d) s

/-- `BIT 7,E` (R253). -/
def execBit7E (s : State) : Result := testBit 7 (.reg .e) s

/-- `BIT 7,H` (R253). -/
def execBit7H (s : State) : Result := testBit 7 (.reg .h) s

/-- `BIT 7,L` (R253). -/
def execBit7L (s : State) : Result := testBit 7 (.reg .l) s

/-- `BIT 7,(HL)` (R253). -/
def execBit7AtHl (s : State) : Result := testBit 7 .atHl s

/-- `BIT 7,A` (R253). -/
def execBit7A (s : State) : Result := testBit 7 (.reg .a) s

/-- `RES 0,B` (R254). -/
def execRes0B (s : State) : Result := resetBit 0 (.reg .b) s

/-- `RES 0,C` (R254). -/
def execRes0C (s : State) : Result := resetBit 0 (.reg .c) s

/-- `RES 0,D` (R254). -/
def execRes0D (s : State) : Result := resetBit 0 (.reg .d) s

/-- `RES 0,E` (R254). -/
def execRes0E (s : State) : Result := resetBit 0 (.reg .e) s

/-- `RES 0,H` (R254). -/
def execRes0H (s : State) : Result := resetBit 0 (.reg .h) s

/-- `RES 0,L` (R254). -/
def execRes0L (s : State) : Result := resetBit 0 (.reg .l) s

/-- `RES 0,(HL)` (R254). -/
def execRes0AtHl (s : State) : Result := resetBit 0 .atHl s

/-- `RES 0,A` (R254). -/
def execRes0A (s : State) : Result := resetBit 0 (.reg .a) s

/-- `RES 1,B` (R254). -/
def execRes1B (s : State) : Result := resetBit 1 (.reg .b) s

/-- `RES 1,C` (R254). -/
def execRes1C (s : State) : Result := resetBit 1 (.reg .c) s

/-- `RES 1,D` (R254). -/
def execRes1D (s : State) : Result := resetBit 1 (.reg .d) s

/-- `RES 1,E` (R254). -/
def execRes1E (s : State) : Result := resetBit 1 (.reg .e) s

/-- `RES 1,H` (R254). -/
def execRes1H (s : State) : Result := resetBit 1 (.reg .h) s

/-- `RES 1,L` (R254). -/
def execRes1L (s : State) : Result := resetBit 1 (.reg .l) s

/-- `RES 1,(HL)` (R254). -/
def execRes1AtHl (s : State) : Result := resetBit 1 .atHl s

/-- `RES 1,A` (R254). -/
def execRes1A (s : State) : Result := resetBit 1 (.reg .a) s

/-- `RES 2,B` (R254). -/
def execRes2B (s : State) : Result := resetBit 2 (.reg .b) s

/-- `RES 2,C` (R254). -/
def execRes2C (s : State) : Result := resetBit 2 (.reg .c) s

/-- `RES 2,D` (R254). -/
def execRes2D (s : State) : Result := resetBit 2 (.reg .d) s

/-- `RES 2,E` (R254). -/
def execRes2E (s : State) : Result := resetBit 2 (.reg .e) s

/-- `RES 2,H` (R254). -/
def execRes2H (s : State) : Result := resetBit 2 (.reg .h) s

/-- `RES 2,L` (R254). -/
def execRes2L (s : State) : Result := resetBit 2 (.reg .l) s

/-- `RES 2,(HL)` (R254). -/
def execRes2AtHl (s : State) : Result := resetBit 2 .atHl s

/-- `RES 2,A` (R254). -/
def execRes2A (s : State) : Result := resetBit 2 (.reg .a) s

/-- `RES 3,B` (R254). -/
def execRes3B (s : State) : Result := resetBit 3 (.reg .b) s

/-- `RES 3,C` (R254). -/
def execRes3C (s : State) : Result := resetBit 3 (.reg .c) s

/-- `RES 3,D` (R254). -/
def execRes3D (s : State) : Result := resetBit 3 (.reg .d) s

/-- `RES 3,E` (R254). -/
def execRes3E (s : State) : Result := resetBit 3 (.reg .e) s

/-- `RES 3,H` (R254). -/
def execRes3H (s : State) : Result := resetBit 3 (.reg .h) s

/-- `RES 3,L` (R254). -/
def execRes3L (s : State) : Result := resetBit 3 (.reg .l) s

/-- `RES 3,(HL)` (R254). -/
def execRes3AtHl (s : State) : Result := resetBit 3 .atHl s

/-- `RES 3,A` (R254). -/
def execRes3A (s : State) : Result := resetBit 3 (.reg .a) s

/-- `RES 4,B` (R254). -/
def execRes4B (s : State) : Result := resetBit 4 (.reg .b) s

/-- `RES 4,C` (R254). -/
def execRes4C (s : State) : Result := resetBit 4 (.reg .c) s

/-- `RES 4,D` (R254). -/
def execRes4D (s : State) : Result := resetBit 4 (.reg .d) s

/-- `RES 4,E` (R254). -/
def execRes4E (s : State) : Result := resetBit 4 (.reg .e) s

/-- `RES 4,H` (R254). -/
def execRes4H (s : State) : Result := resetBit 4 (.reg .h) s

/-- `RES 4,L` (R254). -/
def execRes4L (s : State) : Result := resetBit 4 (.reg .l) s

/-- `RES 4,(HL)` (R254). -/
def execRes4AtHl (s : State) : Result := resetBit 4 .atHl s

/-- `RES 4,A` (R254). -/
def execRes4A (s : State) : Result := resetBit 4 (.reg .a) s

/-- `RES 5,B` (R254). -/
def execRes5B (s : State) : Result := resetBit 5 (.reg .b) s

/-- `RES 5,C` (R254). -/
def execRes5C (s : State) : Result := resetBit 5 (.reg .c) s

/-- `RES 5,D` (R254). -/
def execRes5D (s : State) : Result := resetBit 5 (.reg .d) s

/-- `RES 5,E` (R254). -/
def execRes5E (s : State) : Result := resetBit 5 (.reg .e) s

/-- `RES 5,H` (R254). -/
def execRes5H (s : State) : Result := resetBit 5 (.reg .h) s

/-- `RES 5,L` (R254). -/
def execRes5L (s : State) : Result := resetBit 5 (.reg .l) s

/-- `RES 5,(HL)` (R254). -/
def execRes5AtHl (s : State) : Result := resetBit 5 .atHl s

/-- `RES 5,A` (R254). -/
def execRes5A (s : State) : Result := resetBit 5 (.reg .a) s

/-- `RES 6,B` (R254). -/
def execRes6B (s : State) : Result := resetBit 6 (.reg .b) s

/-- `RES 6,C` (R254). -/
def execRes6C (s : State) : Result := resetBit 6 (.reg .c) s

/-- `RES 6,D` (R254). -/
def execRes6D (s : State) : Result := resetBit 6 (.reg .d) s

/-- `RES 6,E` (R254). -/
def execRes6E (s : State) : Result := resetBit 6 (.reg .e) s

/-- `RES 6,H` (R254). -/
def execRes6H (s : State) : Result := resetBit 6 (.reg .h) s

/-- `RES 6,L` (R254). -/
def execRes6L (s : State) : Result := resetBit 6 (.reg .l) s

/-- `RES 6,(HL)` (R254). -/
def execRes6AtHl (s : State) : Result := resetBit 6 .atHl s

/-- `RES 6,A` (R254). -/
def execRes6A (s : State) : Result := resetBit 6 (.reg .a) s

/-- `RES 7,B` (R254). -/
def execRes7B (s : State) : Result := resetBit 7 (.reg .b) s

/-- `RES 7,C` (R254). -/
def execRes7C (s : State) : Result := resetBit 7 (.reg .c) s

/-- `RES 7,D` (R254). -/
def execRes7D (s : State) : Result := resetBit 7 (.reg .d) s

/-- `RES 7,E` (R254). -/
def execRes7E (s : State) : Result := resetBit 7 (.reg .e) s

/-- `RES 7,H` (R254). -/
def execRes7H (s : State) : Result := resetBit 7 (.reg .h) s

/-- `RES 7,L` (R254). -/
def execRes7L (s : State) : Result := resetBit 7 (.reg .l) s

/-- `RES 7,(HL)` (R254). -/
def execRes7AtHl (s : State) : Result := resetBit 7 .atHl s

/-- `RES 7,A` (R254). -/
def execRes7A (s : State) : Result := resetBit 7 (.reg .a) s

/-- `SET 0,B` (R255). -/
def execSet0B (s : State) : Result := setBit 0 (.reg .b) s

/-- `SET 0,C` (R255). -/
def execSet0C (s : State) : Result := setBit 0 (.reg .c) s

/-- `SET 0,D` (R255). -/
def execSet0D (s : State) : Result := setBit 0 (.reg .d) s

/-- `SET 0,E` (R255). -/
def execSet0E (s : State) : Result := setBit 0 (.reg .e) s

/-- `SET 0,H` (R255). -/
def execSet0H (s : State) : Result := setBit 0 (.reg .h) s

/-- `SET 0,L` (R255). -/
def execSet0L (s : State) : Result := setBit 0 (.reg .l) s

/-- `SET 0,(HL)` (R255). -/
def execSet0AtHl (s : State) : Result := setBit 0 .atHl s

/-- `SET 0,A` (R255). -/
def execSet0A (s : State) : Result := setBit 0 (.reg .a) s

/-- `SET 1,B` (R255). -/
def execSet1B (s : State) : Result := setBit 1 (.reg .b) s

/-- `SET 1,C` (R255). -/
def execSet1C (s : State) : Result := setBit 1 (.reg .c) s

/-- `SET 1,D` (R255). -/
def execSet1D (s : State) : Result := setBit 1 (.reg .d) s

/-- `SET 1,E` (R255). -/
def execSet1E (s : State) : Result := setBit 1 (.reg .e) s

/-- `SET 1,H` (R255). -/
def execSet1H (s : State) : Result := setBit 1 (.reg .h) s

/-- `SET 1,L` (R255). -/
def execSet1L (s : State) : Result := setBit 1 (.reg .l) s

/-- `SET 1,(HL)` (R255). -/
def execSet1AtHl (s : State) : Result := setBit 1 .atHl s

/-- `SET 1,A` (R255). -/
def execSet1A (s : State) : Result := setBit 1 (.reg .a) s

/-- `SET 2,B` (R255). -/
def execSet2B (s : State) : Result := setBit 2 (.reg .b) s

/-- `SET 2,C` (R255). -/
def execSet2C (s : State) : Result := setBit 2 (.reg .c) s

/-- `SET 2,D` (R255). -/
def execSet2D (s : State) : Result := setBit 2 (.reg .d) s

/-- `SET 2,E` (R255). -/
def execSet2E (s : State) : Result := setBit 2 (.reg .e) s

/-- `SET 2,H` (R255). -/
def execSet2H (s : State) : Result := setBit 2 (.reg .h) s

/-- `SET 2,L` (R255). -/
def execSet2L (s : State) : Result := setBit 2 (.reg .l) s

/-- `SET 2,(HL)` (R255). -/
def execSet2AtHl (s : State) : Result := setBit 2 .atHl s

/-- `SET 2,A` (R255). -/
def execSet2A (s : State) : Result := setBit 2 (.reg .a) s

/-- `SET 3,B` (R255). -/
def execSet3B (s : State) : Result := setBit 3 (.reg .b) s

/-- `SET 3,C` (R255). -/
def execSet3C (s : State) : Result := setBit 3 (.reg .c) s

/-- `SET 3,D` (R255). -/
def execSet3D (s : State) : Result := setBit 3 (.reg .d) s

/-- `SET 3,E` (R255). -/
def execSet3E (s : State) : Result := setBit 3 (.reg .e) s

/-- `SET 3,H` (R255). -/
def execSet3H (s : State) : Result := setBit 3 (.reg .h) s

/-- `SET 3,L` (R255). -/
def execSet3L (s : State) : Result := setBit 3 (.reg .l) s

/-- `SET 3,(HL)` (R255). -/
def execSet3AtHl (s : State) : Result := setBit 3 .atHl s

/-- `SET 3,A` (R255). -/
def execSet3A (s : State) : Result := setBit 3 (.reg .a) s

/-- `SET 4,B` (R255). -/
def execSet4B (s : State) : Result := setBit 4 (.reg .b) s

/-- `SET 4,C` (R255). -/
def execSet4C (s : State) : Result := setBit 4 (.reg .c) s

/-- `SET 4,D` (R255). -/
def execSet4D (s : State) : Result := setBit 4 (.reg .d) s

/-- `SET 4,E` (R255). -/
def execSet4E (s : State) : Result := setBit 4 (.reg .e) s

/-- `SET 4,H` (R255). -/
def execSet4H (s : State) : Result := setBit 4 (.reg .h) s

/-- `SET 4,L` (R255). -/
def execSet4L (s : State) : Result := setBit 4 (.reg .l) s

/-- `SET 4,(HL)` (R255). -/
def execSet4AtHl (s : State) : Result := setBit 4 .atHl s

/-- `SET 4,A` (R255). -/
def execSet4A (s : State) : Result := setBit 4 (.reg .a) s

/-- `SET 5,B` (R255). -/
def execSet5B (s : State) : Result := setBit 5 (.reg .b) s

/-- `SET 5,C` (R255). -/
def execSet5C (s : State) : Result := setBit 5 (.reg .c) s

/-- `SET 5,D` (R255). -/
def execSet5D (s : State) : Result := setBit 5 (.reg .d) s

/-- `SET 5,E` (R255). -/
def execSet5E (s : State) : Result := setBit 5 (.reg .e) s

/-- `SET 5,H` (R255). -/
def execSet5H (s : State) : Result := setBit 5 (.reg .h) s

/-- `SET 5,L` (R255). -/
def execSet5L (s : State) : Result := setBit 5 (.reg .l) s

/-- `SET 5,(HL)` (R255). -/
def execSet5AtHl (s : State) : Result := setBit 5 .atHl s

/-- `SET 5,A` (R255). -/
def execSet5A (s : State) : Result := setBit 5 (.reg .a) s

/-- `SET 6,B` (R255). -/
def execSet6B (s : State) : Result := setBit 6 (.reg .b) s

/-- `SET 6,C` (R255). -/
def execSet6C (s : State) : Result := setBit 6 (.reg .c) s

/-- `SET 6,D` (R255). -/
def execSet6D (s : State) : Result := setBit 6 (.reg .d) s

/-- `SET 6,E` (R255). -/
def execSet6E (s : State) : Result := setBit 6 (.reg .e) s

/-- `SET 6,H` (R255). -/
def execSet6H (s : State) : Result := setBit 6 (.reg .h) s

/-- `SET 6,L` (R255). -/
def execSet6L (s : State) : Result := setBit 6 (.reg .l) s

/-- `SET 6,(HL)` (R255). -/
def execSet6AtHl (s : State) : Result := setBit 6 .atHl s

/-- `SET 6,A` (R255). -/
def execSet6A (s : State) : Result := setBit 6 (.reg .a) s

/-- `SET 7,B` (R255). -/
def execSet7B (s : State) : Result := setBit 7 (.reg .b) s

/-- `SET 7,C` (R255). -/
def execSet7C (s : State) : Result := setBit 7 (.reg .c) s

/-- `SET 7,D` (R255). -/
def execSet7D (s : State) : Result := setBit 7 (.reg .d) s

/-- `SET 7,E` (R255). -/
def execSet7E (s : State) : Result := setBit 7 (.reg .e) s

/-- `SET 7,H` (R255). -/
def execSet7H (s : State) : Result := setBit 7 (.reg .h) s

/-- `SET 7,L` (R255). -/
def execSet7L (s : State) : Result := setBit 7 (.reg .l) s

/-- `SET 7,(HL)` (R255). -/
def execSet7AtHl (s : State) : Result := setBit 7 .atHl s

/-- `SET 7,A` (R255). -/
def execSet7A (s : State) : Result := setBit 7 (.reg .a) s

end Sys2Proof.Machine
end

