-- ==== Sys2Proof/Machine/Control.lean ====
section
/-! DEFINITION. The jumps, calls and returns (spec/45_control_flow.md, R270 to R281). Relative offsets and return
addresses are measured from PC past the instruction. -/

namespace Sys2Proof.Machine

/-- `pc <- target`, at a cost. -/
def State.goTo (s : State) (target : Addr) (cost : Nat) : Result :=
  .next (({ s with pc := target } : State).tick cost)

/-- JP n16 (R271). -/
def jump (n : Addr) (s : State) : Result := (s.fetched 3).goTo n 16

/-- JP cc,n16 (R272). -/
def jumpIf (k : Cond) (n : Addr) (s : State) : Result :=
  if s.cond k then (s.fetched 3).goTo n 16 else .next ((s.fetched 3).tick 12)

/-- JP HL (R273): no memory is read. -/
def jumpHl (s : State) : Result := (s.fetched 1).goTo s.hl 4

/-- JR e8 (R274). -/
def jumpRelative (e : Byte) (s : State) : Result := (s.fetched 2).goTo (s.pcAfter 2 + sext16 e) 12

/-- JR cc,e8 (R275). -/
def jumpRelativeIf (k : Cond) (e : Byte) (s : State) : Result :=
  if s.cond k then (s.fetched 2).goTo (s.pcAfter 2 + sext16 e) 12 else .next ((s.fetched 2).tick 8)

/-- Push the return address and go to the target (R276, R281). -/
def State.callTo (s : State) (target : Addr) (cost : Nat) : Result :=
  (s.push16 s.pc).andThen fun t => t.goTo target cost

/-- CALL n16 (R276). -/
def call (n : Addr) (s : State) : Result := (s.fetched 3).callTo n 24

/-- CALL cc,n16 (R277). -/
def callIf (k : Cond) (n : Addr) (s : State) : Result :=
  if s.cond k then (s.fetched 3).callTo n 24 else .next ((s.fetched 3).tick 12)

/-- RET (R278). -/
def returnFromCall (s : State) : Result := (s.fetched 1).popped.goTo s.popValue 16

/-- RET cc (R279). -/
def returnIf (k : Cond) (s : State) : Result :=
  if s.cond k then (s.fetched 1).popped.goTo s.popValue 20 else .next ((s.fetched 1).tick 8)

/-- RETI (R280). -/
def returnAndEnable (s : State) : Result := .next ((s.fetched 1).returnFromInterrupt.tick 16)

/-- RST t, with t = 8 * y (R281). -/
def restart (y : Fin 8) (s : State) : Result := (s.fetched 1).callTo (BitVec.ofNat 16 (8 * y.val)) 16

/-! ## The meanings -/

/-- `JR e8` (R274). -/
def execJrE8 (e : Byte) (s : State) : Result := jumpRelative e s

/-- `JR NZ,e8` (R275). -/
def execJrNzE8 (e : Byte) (s : State) : Result := jumpRelativeIf .nz e s

/-- `JR Z,e8` (R275). -/
def execJrZE8 (e : Byte) (s : State) : Result := jumpRelativeIf .z e s

/-- `JR NC,e8` (R275). -/
def execJrNcE8 (e : Byte) (s : State) : Result := jumpRelativeIf .nc e s

/-- `JR C,e8` (R275). -/
def execJrCE8 (e : Byte) (s : State) : Result := jumpRelativeIf .c e s

/-- `RET NZ` (R279). -/
def execRetNz (s : State) : Result := returnIf .nz s

/-- `JP NZ,n16` (R272). -/
def execJpNzN16 (n : Addr) (s : State) : Result := jumpIf .nz n s

/-- `JP n16` (R271). -/
def execJpN16 (n : Addr) (s : State) : Result := jump n s

/-- `CALL NZ,n16` (R277). -/
def execCallNzN16 (n : Addr) (s : State) : Result := callIf .nz n s

/-- `RST 0x00` (R281). -/
def execRst00 (s : State) : Result := restart 0 s

/-- `RET Z` (R279). -/
def execRetZ (s : State) : Result := returnIf .z s

/-- `RET` (R278). -/
def execRet (s : State) : Result := returnFromCall s

/-- `JP Z,n16` (R272). -/
def execJpZN16 (n : Addr) (s : State) : Result := jumpIf .z n s

/-- `CALL Z,n16` (R277). -/
def execCallZN16 (n : Addr) (s : State) : Result := callIf .z n s

/-- `CALL n16` (R276). -/
def execCallN16 (n : Addr) (s : State) : Result := call n s

/-- `RST 0x08` (R281). -/
def execRst08 (s : State) : Result := restart 1 s

/-- `RET NC` (R279). -/
def execRetNc (s : State) : Result := returnIf .nc s

/-- `JP NC,n16` (R272). -/
def execJpNcN16 (n : Addr) (s : State) : Result := jumpIf .nc n s

/-- `CALL NC,n16` (R277). -/
def execCallNcN16 (n : Addr) (s : State) : Result := callIf .nc n s

/-- `RST 0x10` (R281). -/
def execRst10 (s : State) : Result := restart 2 s

/-- `RET C` (R279). -/
def execRetC (s : State) : Result := returnIf .c s

/-- `RETI` (R280). -/
def execReti (s : State) : Result := returnAndEnable s

/-- `JP C,n16` (R272). -/
def execJpCN16 (n : Addr) (s : State) : Result := jumpIf .c n s

/-- `CALL C,n16` (R277). -/
def execCallCN16 (n : Addr) (s : State) : Result := callIf .c n s

/-- `RST 0x18` (R281). -/
def execRst18 (s : State) : Result := restart 3 s

/-- `RST 0x20` (R281). -/
def execRst20 (s : State) : Result := restart 4 s

/-- `JP HL` (R273). -/
def execJpHl (s : State) : Result := jumpHl s

/-- `RST 0x28` (R281). -/
def execRst28 (s : State) : Result := restart 5 s

/-- `RST 0x30` (R281). -/
def execRst30 (s : State) : Result := restart 6 s

/-- `RST 0x38` (R281). -/
def execRst38 (s : State) : Result := restart 7 s

end Sys2Proof.Machine
end

