-- ==== Sys2Proof/Machine/System.lean ====
section
/-! DEFINITION. The system and interrupt-control instructions and the eleven unassigned bytes (spec/46_system.md, R290 to
R295). -/

namespace Sys2Proof.Machine

/-- NOP (R290). -/
def noOperation (s : State) : Result := .next ((s.fetched 1).tick 4)

/-- HALT (R291): idle unless an enabled interrupt is already pending; with IME clear and one pending, what `HALT_PENDING_IME0`
says. -/
def haltCpu (s : State) : Result :=
  if s.pend = 0 then .next (({ s.fetched 1 with execState := .halt } : State).tick 4)
  else if s.ime then .next ((s.fetched 1).tick 4)
  else
    match s.params.haltPendingIme0 with
    | .resume => .next ((s.fetched 1).tick 4)
    | .fault => .fault (.haltBug s.pc)
    | .bug => .next (({ s.fetched 1 with haltBug := true } : State).tick 4)

/-- STOP (R292): two bytes, the second ignored. -/
def stopCpu (s : State) : Result := .next (({ s.fetched 2 with execState := .stop } : State).tick 4)

/-- DI (R293). -/
def disableInterrupts (s : State) : Result :=
  .next (({ s.fetched 1 with ime := false, eiPending := false } : State).tick 4)

/-- EI (R294). -/
def enableInterrupts (s : State) : Result := .next (({ s.fetched 1 with eiPending := true } : State).tick 4)

/-- The unassigned first bytes (R295): the step faults with the byte and the address it was fetched from. -/
def illegalOpcode (op : Byte) (s : State) : Result := .fault (.illegalOpcode op s.pc)

/-! ## The meanings -/

/-- `NOP` (R290). -/
def execNop (s : State) : Result := noOperation s

/-- `STOP` (R292). -/
def execStop (_x : Byte) (s : State) : Result := stopCpu s

/-- `HALT` (R291). -/
def execHalt (s : State) : Result := haltCpu s

/-- The unassigned byte 0xD3 (R295). -/
def execIllegalD3 (s : State) : Result := illegalOpcode 0xD3 s

/-- The unassigned byte 0xDB (R295). -/
def execIllegalDB (s : State) : Result := illegalOpcode 0xDB s

/-- The unassigned byte 0xDD (R295). -/
def execIllegalDD (s : State) : Result := illegalOpcode 0xDD s

/-- The unassigned byte 0xE3 (R295). -/
def execIllegalE3 (s : State) : Result := illegalOpcode 0xE3 s

/-- The unassigned byte 0xE4 (R295). -/
def execIllegalE4 (s : State) : Result := illegalOpcode 0xE4 s

/-- The unassigned byte 0xEB (R295). -/
def execIllegalEB (s : State) : Result := illegalOpcode 0xEB s

/-- The unassigned byte 0xEC (R295). -/
def execIllegalEC (s : State) : Result := illegalOpcode 0xEC s

/-- The unassigned byte 0xED (R295). -/
def execIllegalED (s : State) : Result := illegalOpcode 0xED s

/-- `DI` (R293). -/
def execDi (s : State) : Result := disableInterrupts s

/-- The unassigned byte 0xF4 (R295). -/
def execIllegalF4 (s : State) : Result := illegalOpcode 0xF4 s

/-- `EI` (R294). -/
def execEi (s : State) : Result := enableInterrupts s

/-- The unassigned byte 0xFC (R295). -/
def execIllegalFC (s : State) : Result := illegalOpcode 0xFC s

/-- The unassigned byte 0xFD (R295). -/
def execIllegalFD (s : State) : Result := illegalOpcode 0xFD s

end Sys2Proof.Machine
end

