-- ==== Sys2Proof/Machine/Cpu.lean ====
section
/-! DEFINITION. One call of the CPU's `step()` (R305 of spec/60_exceptions.md) and the audio unit's cadence after it (R358). -/

namespace Sys2Proof.Machine

/-- The Stop state (R292, R315): four ticks, and Normal again if a button line is low; no interrupt check. -/
def State.stopStep (s : State) : Result :=
  if s.p1.extractLsb' 0 4 ≠ 0xF then .next (({ s with execState := .normal } : State).tick 4) else .next (s.tick 4)

/-- The Halt state (R291, R314): four ticks, and if an enabled interrupt is pending, whatever IME is, Normal again with the
interrupt check in the same step. -/
def State.haltStep (s : State) : Result :=
  if s.pend ≠ 0 then (({ s with execState := .normal } : State).tick 4).interruptCheck else .next (s.tick 4)

/-- The Normal state: the promotion of a pending enable, one instruction with its cost, the interrupt check (none on entering
Stop). -/
def State.normalStep (s : State) : Result :=
  Result.andThen (exec s.promoteEi.decodeAtPc s.promoteEi) State.boundaryCheck

/-- `step()` (R305). -/
def State.cpuStep (s : State) : Result :=
  match s.execState with
  | .normal => s.normalStep
  | .halt => s.haltStep
  | .stop => s.stopStep

/-- One turn of R358's loop: `ApuStep(); APU_NEXT <- APU_NEXT + APU_STEP_PERIOD`. -/
def State.apuTurn (s : State) : State :=
  { s with apu := s.apu.step, apuNext := s.apuNext + s.params.apuStepPeriod }

/-- `while cycles >= APU_NEXT` (R358), at most `fuel` turns. -/
def State.apuLoop (s : State) (fuel : Nat) : State :=
  match fuel with
  | 0 => s
  | n + 1 => if s.apuNext ≤ s.cycles then State.apuLoop s.apuTurn n else s

/-- The audio steps that are due (R358). With a period of at least one tick the loop ends within this fuel
(notes/assumptions/11.md). -/
def State.apuCatchUp (s : State) : State :=
  s.apuLoop (s.cycles + 1 - s.apuNext)

end Sys2Proof.Machine
end

