-- ==== Sys2Proof/Machine/HostInterface.lean ====
section
/-! DEFINITION. What the outside world can do to the machine: the host moves between two CPU steps (R103 of spec/20_memory.md, R312, R313 of
spec/60_exceptions.md, R400 of spec/70_reset_and_hazards.md), power-on (R90, R401), the read-only accessors (R325), and the placing of
an instruction where the next fetch reads it. -/

namespace Sys2Proof.Machine

/-! ## Host moves -/

/-- `reset()` (R400): everything the rule names gets its reset value; the RAM arrays, the wave pattern memory, the image, the
parameters and the moves still to come stay. -/
def State.hostReset (s : State) : State :=
  { State.reset with
    vram := s.vram
    wram := s.wram
    oam := s.oam
    hram := s.hram
    cart := s.cart.resetMapper
    apu := s.apu.resetUnit s.params
    apuNext := s.params.apuStepPeriod
    params := s.params
    schedule := s.schedule }

/-- The line a button drives (R313). -/
def buttonLine (m : ButtonMap) (x : Button) : ButtonLine :=
  match x with
  | .right => m.right
  | .left => m.left
  | .up => m.up
  | .down => m.down
  | .a => m.a
  | .b => m.b
  | .select => m.select
  | .start => m.start

/-- `P1[line] <- v`. -/
def setLine (p1 : BitVec 6) (line : Fin 4) (v : Bool) : BitVec 6 :=
  if v then p1 ||| 1#6 <<< line.val else p1 &&& ~~~(1#6 <<< line.val)

/-- `Press(b)` (R313): the line goes to its pressed value and the joypad interrupt is requested. -/
def State.press (s : State) (x : Button) : State :=
  let line := buttonLine s.params.buttonMap x
  { s with p1 := setLine s.p1 line.line line.pressed, iflags := s.iflags ||| sourceBit 4 }

/-- `Release(b)` (R313). -/
def State.release (s : State) (x : Button) : State :=
  let line := buttonLine s.params.buttonMap x
  { s with p1 := setLine s.p1 line.line (!line.pressed) }

/-- `RequestInterrupt(i)` (R312). -/
def State.requestInterrupt (s : State) (i : Fin 5) : State :=
  { s with iflags := s.iflags ||| sourceBit i }

/-- The bytes an outside device owns (R103): 0xFF01 to 0xFF7F outside 0xFF0F to 0xFF3F. -/
def isDeviceByte (addr : Addr) : Bool :=
  decide (0xFF01 ≤ addr.toNat ∧ addr.toNat ≤ 0xFF7F ∧ ¬(0xFF0F ≤ addr.toNat ∧ addr.toNat ≤ 0xFF3F))

/-- `ExternalIoWrite(addr, v)` (R103); at any other address there is no such move and nothing changes (notes/assumptions/14.md). -/
def State.externalIoWrite (s : State) (addr : Addr) (v : Byte) : State :=
  if isDeviceByte addr then { s with io := Memory.write .io s.io (addr.toNat - 0xFF00) v } else s

/-- One host move. -/
def State.hostMove (s : State) (m : HostMove) : State :=
  match m with
  | .press x => s.press x
  | .release x => s.release x
  | .requestInterrupt i => s.requestInterrupt i
  | .externalIoWrite addr v => s.externalIoWrite addr v
  | .reset => s.hostReset

/-- The moves due before this step, in order (R410). -/
def State.takeHostMoves (s : State) : State :=
  match s.schedule with
  | [] => s
  | moves :: rest => moves.foldl State.hostMove { s with schedule := rest }

/-! ## Power-on -/

/-- `RAM_INIT` (R4, R42, R401): the contents the RAM arrays and the wave pattern memory have at power-on. -/
structure RamInit where
  vram : Memory
  wram : Memory
  oam : Memory
  hram : Memory
  cartRam : Memory
  /-- the listed cells of the wave pattern memory, at register numbers 0x20 to 0x2F -/
  wave : Memory
  deriving DecidableEq, Repr

/-- Power-on (R401): load the image, which may refuse (R90), give the arrays their contents, then `reset()`. -/
def powerOn (image : List Byte) (ram : RamInit) (p : Params) : Result :=
  match Cart.load image ram.cartRam with
  | .error r => .refused r
  | .ok cart =>
    .next
      ({ State.reset with
          vram := ram.vram
          wram := ram.wram
          oam := ram.oam
          hram := ram.hram
          cart := cart
          apu := { Apu.reset with regs := ram.wave }
          params := p } : State).hostReset

/-! ## Accessors (R325) -/

/-- `access_register(d)`: none is `Error(InvalidRegister)`. -/
def State.accessRegister (s : State) (d : String) : Option Byte :=
  match d with
  | "A" => some s.a
  | "F" => some s.f
  | "B" => some s.b
  | "C" => some s.c
  | "D" => some s.d
  | "E" => some s.e
  | "H" => some s.h
  | "L" => some s.l
  | _ => none

/-- `access_register16(d)`: none is `Error(InvalidRegister)`. -/
def State.accessRegister16 (s : State) (d : String) : Option Addr :=
  match d with
  | "AF" => some s.af
  | "BC" => some s.bc
  | "DE" => some s.de
  | "HL" => some s.hl
  | "SP" => some s.sp
  | "PC" => some s.pc
  | _ => none

/-! ## Placing an instruction -/

/-- Put a byte into the cell that a read of `addr` shows, the cartridge image included; where there is no such cell (the gap,
absent cartridge RAM, bits that do not exist) only what exists changes. -/
def State.poke (s : State) (addr : Addr) (v : Byte) : State :=
  match region addr with
  | .romFixed | .romSwitch =>
    { s with cart := { s.cart with rom := Memory.write .rom s.cart.rom (s.cart.romOffset s.params addr.toNat) v } }
  | .cartRam =>
    if s.cart.ramPresent then
      { s with cart := { s.cart with ram := Memory.write .cartRam s.cart.ram (s.cart.ramOffset addr.toNat) v } }
    else s
  | .io =>
    if addr = 0xFF00 then { s with p1 := v.extractLsb' 0 6 }
    else if addr = 0xFF0F then { s with iflags := v.extractLsb' 0 5 }
    else if 0xFF10 ≤ addr.toNat ∧ addr.toNat ≤ 0xFF3F then { s with apu := s.apu.setReg (addr.toNat - 0xFF10) v }
    else { s with io := Memory.write .io s.io (addr.toNat - 0xFF00) v }
  | .vram | .wram | .echo | .oam | .hram | .ie | .unusable => s.store8 addr v

/-- Put bytes at rising addresses. -/
def State.pokeList (s : State) (addr : Addr) (bytes : List Byte) : State :=
  match bytes with
  | [] => s
  | v :: rest => State.pokeList (s.poke addr v) (addr + 1) rest

/-- Before the next step no host move comes (the moves of the later steps stay). -/
def State.noMoveNow (s : State) : State :=
  match s.schedule with
  | [] => s
  | _ :: rest => { s with schedule := [] :: rest }

/-- Ready to fetch the given bytes in the next step: they stand at PC, the CPU is in Normal state, the halt bug is not pending and
no host move comes first. -/
def State.placeAtPc (s : State) (bytes : List Byte) : State :=
  ({ s with execState := .normal, haltBug := false } : State).noMoveNow.pokeList s.pc bytes

end Sys2Proof.Machine
end

