-- ==== Sys2Proof/Machine/Step.lean ====
section
/-! DEFINITION. The step of the machine: one iteration of the driving loop of R410 (spec/70_reset_and_hazards.md), and the placing of a word of
the opcode table where that step fetches. -/

namespace Sys2Proof.Machine

/-- One iteration of the driving loop (R410): the host moves that are due, `step()` of the CPU, the audio steps that are due. A fault
ends it (R300). -/
def step (s : State) : Host.Outcome State Fault Refusal :=
  s.takeHostMoves.cpuStep.andThen fun t => .next t.apuCatchUp

/-- The state in which the next step fetches and runs the instruction with the table's bits `w` (notes/assumptions/3.md, 12.md). -/
def State.withFetchWord (s : State) (nbits w : Nat) : State :=
  s.placeAtPc (tableBytes nbits w)

end Sys2Proof.Machine
end

