-- ==== Sys2Proof/Safety.lean ====
section
/-! DEFINITION. The terms in which claims about the machine are stated: runs and their end (R410, R411 of spec/70_reset_and_hazards.md),
reachable states, the invariant of R44 (spec/10_state.md) with the ranges of R342 (spec/60_exceptions.md), what an instruction leaves
unchanged, which addresses a store can change the reading of (spec/20_memory.md), and the rotates and DAA written on numbers. -/

namespace Sys2Proof.Machine

/-! ## Runs -/

/-- `n` iterations of the driving loop (R410). -/
def run (n : Nat) (s : State) : Result :=
  match n with
  | 0 => .next s
  | m + 1 => Result.andThen (step s) (run m)

/-- A completed run in the sense of a claim's own `END_OF_RUN` (R411): it ends in a state of `endOfRun`, never in a fault (R9). -/
def CompletedRun (endOfRun : State → Prop) (n : Nat) (s : State) : Prop :=
  ∃ t, run n s = .next t ∧ endOfRun t

/-- `RAM_INIT` as data in canonical form: only cells that exist are listed. -/
def RamInit.wf (r : RamInit) : Bool :=
  Memory.wf .vram r.vram && Memory.wf .wram r.wram && Memory.wf .oam r.oam && Memory.wf .hram r.hram &&
    Memory.wf .cartRam r.cartRam && Memory.wf .apu r.wave

/-- The states the machine can be in: after power-on with an image that loads, any RAM contents, parameters whose APU period is at
least one tick, and any host moves to come (R401, R410), after every step from there, and after the `reset()` that follows a
fault (R300: the step that faulted had changed nothing). -/
inductive Reachable : State → Prop where
  | powerOn (image : List Byte) (ram : RamInit) (p : Params) (moves : List (List HostMove)) (s : State)
      (hram : ram.wf = true) (hp : 0 < p.apuStepPeriod) (h : powerOn image ram p = .next s) :
      Reachable { s with schedule := moves }
  | step (s t : State) (hs : Reachable s) (h : step s = .next t) : Reachable t
  | recover (s : State) (f : Fault) (hs : Reachable s) (h : step s = .fault f) : Reachable s.takeHostMoves.hostReset

/-! ## The invariant (R44) -/

/-- The ranges of R342 for a cached envelope. -/
structure Envelope.Ok (v : Envelope) : Prop where
  pace : v.pace ≤ 7
  cnt : v.cnt ≤ 8
  vol : v.vol ≤ 15

/-- The ranges of R342 for the cached sweep. -/
structure Sweep.Ok (v : Sweep) : Prop where
  pace : v.pace ≤ 7
  cnt : v.cnt ≤ 8
  freq : v.freq ≤ 2047

/-- R44 (c) to (f), R342, R357, for the audio unit. -/
structure Apu.Ok (apu : Apu) : Prop where
  regsWf : Memory.wf .apu apu.regs = true
  fs : apu.fs ≤ 7
  len : ∀ n, apu.len n ≤ lenMax n
  env1 : apu.env1.Ok
  env2 : apu.env2.Ok
  env4 : apu.env4.Ok
  sweep : apu.sweep.Ok
  /-- R357: `CH_ON[n] = 1` implies `DAC_ON(n)` and `POWER = 1` -/
  onDac : ∀ n, apu.chOn n = true → apu.dacOn n = true ∧ apu.power = true
  /-- R342: the other bits of `APU_REG[0x16]` are always 0 -/
  nr52 : apu.reg 0x16 &&& 0x7F = 0
  /-- R44 (f), the registers without length bits -/
  offZero : apu.power = false → ∀ k, k < 0x16 → lengthChan k = none → apu.reg k = 0
  /-- R44 (f), the bits of NR11 and NR21 that are no length bits (R346): the duty is 0 while the unit is off -/
  offDuty : apu.power = false → (apu.reg 0x01).toNat < 64 ∧ (apu.reg 0x06).toNat < 64

/-- R44 (b), R34, R90, R97, for the cartridge. -/
structure Cart.Ok (cart : Cart) : Prop where
  romWf : Memory.wf .rom cart.rom = true
  ramWf : Memory.wf .cartRam cart.ram = true
  ramFits : ∀ cell ∈ cart.ram, cell.1 < cart.ramSize
  /-- R44 (b) -/
  bank : 1 ≤ cart.romBank.toNat ∧ cart.romBank.toNat ≤ 31
  /-- R97: `Mode4_32` "is a value of the tag that no reachable non-faulted state holds" -/
  mode : cart.mode = .mode16x8
  /-- R90 -/
  banks : 2 ≤ cart.romBanks ∧ cart.romBanks ≤ 32
  /-- R90 -/
  ramSize : cart.ramSize = 0 ∨ cart.ramSize = 2048 ∨ cart.ramSize = 8192
  /-- R90 -/
  romOnly : cart.kind = .romOnly → cart.romBanks = 2 ∧ cart.ramSize = 0

/-- The invariant of the machine: R44, the ranges of R342, every store in canonical form, and between two iterations of the loop the
due time of the next audio step ahead of the cycle counter (R358). -/
structure State.Inv (s : State) : Prop where
  /-- R44 (a) -/
  fLow : s.f &&& 0x0F = 0
  vramWf : Memory.wf .vram s.vram = true
  wramWf : Memory.wf .wram s.wram = true
  oamWf : Memory.wf .oam s.oam = true
  hramWf : Memory.wf .hram s.hram = true
  ioWf : Memory.wf .io s.io = true
  cart : s.cart.Ok
  apu : s.apu.Ok
  period : 0 < s.params.apuStepPeriod
  due : s.cycles < s.apuNext

/-- The part of the invariant that says each store is in canonical form. -/
def State.memoryWf (s : State) : Bool :=
  Memory.wf .vram s.vram && Memory.wf .wram s.wram && Memory.wf .oam s.oam && Memory.wf .hram s.hram && Memory.wf .io s.io &&
    Memory.wf .cartRam s.cart.ram && Memory.wf .rom s.cart.rom && Memory.wf .apu s.apu.regs

/-! ## What an instruction leaves unchanged -/

/-- The control state that is not a register, a flag or a byte of memory is the same. -/
structure State.ControlSame (s t : State) : Prop where
  execState : t.execState = s.execState
  ime : t.ime = s.ime
  eiPending : t.eiPending = s.eiPending
  apuNext : t.apuNext = s.apuNext
  params : t.params = s.params
  schedule : t.schedule = s.schedule

/-- Everything a store can reach is the same: memory, the interrupt registers, the joypad byte, the cartridge and the audio unit. -/
structure State.StoresSame (s t : State) : Prop where
  ie : t.ie = s.ie
  iflags : t.iflags = s.iflags
  p1 : t.p1 = s.p1
  vram : t.vram = s.vram
  wram : t.wram = s.wram
  oam : t.oam = s.oam
  hram : t.hram = s.hram
  io : t.io = s.io
  cart : t.cart = s.cart
  apu : t.apu = s.apu

/-- Every byte of the address space reads as before. -/
def State.MemorySame (s t : State) : Prop :=
  ∀ addr, t.read8 addr = s.read8 addr

/-- Nothing outside the registers, the flags, PC and the cycle counter has changed. -/
structure State.Quiet (s t : State) : Prop where
  control : s.ControlSame t
  stores : s.StoresSame t
  memory : s.MemorySame t

/-- PC stands after the `len` bytes of the instruction (R24; one less under the halt bug of R291, which is used up), and the cost is
added (R27, R409). -/
structure State.Advances (s t : State) (len : Addr) (cost : Nat) : Prop where
  pc : t.pc = if s.haltBug then s.pc + len - 1 else s.pc + len
  haltBug : t.haltBug = false
  cycles : t.cycles = s.cycles + cost

/-- The eight-bit registers outside `written` are the same. -/
def State.RegsSameBut (s t : State) (written : List Reg8) : Prop :=
  ∀ r, r ∉ written → t.reg8 r = s.reg8 r

/-- `cond(cc)` of R270, on the flags. -/
def State.CondHolds (s : State) (k : Cond) : Prop :=
  match k with
  | .nz => s.flagZ = false
  | .z => s.flagZ = true
  | .nc => s.flagC = false
  | .c => s.flagC = true

/-- Control goes to `target` at a cost, and nothing but PC and the cycle counter changes. -/
structure State.GoesTo (s t : State) (target : Addr) (cost : Nat) : Prop where
  pc : t.pc = target
  haltBug : t.haltBug = false
  cycles : t.cycles = s.cycles + cost
  regs : s.RegsSameBut t []
  f : t.f = s.f
  sp : t.sp = s.sp
  quiet : s.Quiet t

/-- The four flags have these values and the low nibble of F is zero (R22, R23). -/
structure State.HasFlags (t : State) (z n h c : Bool) : Prop where
  z : t.flagZ = z
  n : t.flagN = n
  h : t.flagH = h
  c : t.flagC = c
  low : t.f &&& 0x0F = 0

/-! ## What a store reaches -/

/-- The two regions whose bytes are the cells of WRAM (R69). -/
def isWork (addr : Addr) : Bool :=
  decide (region addr = .wram) || decide (region addr = .echo)

/-- The cell of WRAM an address of those regions names (R61, R69). -/
def workCell (addr : Addr) : Nat :=
  if addr.toNat < 0xE000 then addr.toNat - 0xC000 else addr.toNat - 0xE000

/-- A write to address `addr` can change what a read of `a` returns. Plain storage: the cell itself, with its echo (R69) or its mirrors in
cartridge RAM (R100). A mapper register: the window it controls (R94, R95). An audio register: itself and the status bits of NR52
(R346 to R350); NR52: the whole audio window (R345). The gap, ROM-only cartridges and the other mapper windows: nothing. -/
def State.reaches (s : State) (addr a : Addr) : Bool :=
  match region addr with
  | .romFixed =>
    decide (s.cart.kind = .mbc1) &&
      (if addr.toNat < 0x2000 then decide (region a = .cartRam) else decide (region a = .romSwitch))
  | .romSwitch | .unusable => false
  | .cartRam =>
    decide (s.cart.kind = .mbc1) && decide (region a = .cartRam) &&
      decide (s.cart.ramOffset a.toNat = s.cart.ramOffset addr.toNat)
  | .vram | .oam | .hram | .ie => decide (a = addr)
  | .wram | .echo => isWork a && decide (workCell a = workCell addr)
  | .io =>
    if addr = 0xFF26 then decide (0xFF10 ≤ a.toNat ∧ a.toNat ≤ 0xFF3F)
    else if 0xFF10 ≤ addr.toNat ∧ addr.toNat ≤ 0xFF25 then decide (a = addr ∨ a = 0xFF26)
    else if 0xFF27 ≤ addr.toNat ∧ addr.toNat ≤ 0xFF2F then false
    else decide (a = addr)

/-- From `s` to `t` the byte `v` was stored at `addr` and nothing else that a store can reach has changed: `t` reads as `s` does after that
one write, and every address the write does not reach reads as before. -/
structure State.StoredByte (s : State) (addr : Addr) (v : Byte) (t : State) : Prop where
  stores : (s.store8 addr v).StoresSame t
  reads : ∀ a, t.read8 a = (s.store8 addr v).read8 a
  frame : ∀ a, s.reaches addr a = false → t.read8 a = s.read8 a

/-- The same for two bytes, `v` at `addr` first and then `w` at `addr'` (R78). -/
structure State.StoredTwo (s : State) (addr : Addr) (v : Byte) (addr' : Addr) (w : Byte) (t : State) : Prop where
  stores : ((s.store8 addr v).store8 addr' w).StoresSame t
  reads : ∀ a, t.read8 a = ((s.store8 addr v).store8 addr' w).read8 a
  frame : ∀ a, s.reaches addr a = false → s.reaches addr' a = false → t.read8 a = s.read8 a

/-- Control goes to `target` with the return address `ret` pushed, high byte at SP - 1 and low byte at SP - 2 (R8, R276, R281), and nothing
else changes. -/
structure State.CallsTo (s t : State) (ret target : Addr) (cost : Nat) : Prop where
  pc : t.pc = target
  sp : t.sp = s.sp - 2
  pushed : s.StoredTwo (s.sp - 1) (hiByte ret) (s.sp - 2) (loByte ret) t
  haltBug : t.haltBug = false
  cycles : t.cycles = s.cycles + cost
  regs : s.RegsSameBut t []
  f : t.f = s.f
  control : s.ControlSame t

/-- Control goes to the address popped from the stack, low byte at SP and high byte at SP + 1 (R8, R278), and nothing else changes but what
`control` leaves open. -/
structure State.ReturnsTo (s t : State) (cost : Nat) : Prop where
  pc : t.pc = s.read8 (s.sp + 1) ++ s.read8 s.sp
  sp : t.sp = s.sp + 2
  haltBug : t.haltBug = false
  cycles : t.cycles = s.cycles + cost
  regs : s.RegsSameBut t []
  f : t.f = s.f
  stores : s.StoresSame t
  memory : s.MemorySame t

/-- Neither byte of a 16-bit store selects the unsupported mapper mode (R97): then the store raises no fault. -/
def State.TwoWritesOk (s : State) (addr : Addr) (v : Byte) (addr' : Addr) (w : Byte) : Prop :=
  s.writeFaults addr v = false ∧ s.writeFaults addr' w = false

/-- `r` is the fault of the write of `v` at `addr` where that write selects the unsupported mapper mode (R97). -/
def State.FaultsAtWrite (s : State) (r : Result) (addr : Addr) (v : Byte) : Prop :=
  s.writeFaults addr v = true → r = .fault (.unsupportedMbc1Mode addr v)

/-- The same for two writes, `v` at `addr` first and then `w` at `addr'`: the first of them that faults (R300). -/
def State.FaultsAtWrites (s : State) (r : Result) (addr : Addr) (v : Byte) (addr' : Addr) (w : Byte) : Prop :=
  s.FaultsAtWrite r addr v ∧ (s.writeFaults addr v = false → s.FaultsAtWrite r addr' w)

/-! ## The audio registers on numbers -/

/-- From `apu` to `t` register `k` got the value `v` and no other register changed. -/
structure Apu.RegStored (apu t : Apu) (k : Nat) (v : Byte) : Prop where
  reg : t.reg k = v
  others : ∀ j, j ≠ k → t.reg j = apu.reg j

/-- The length a value of NRn1 loads (R346): bits 5:0, or all eight bits for channel 3. -/
def lengthNumber (n : Chan) (v : Nat) : Nat :=
  match n with
  | .ch1 | .ch2 | .ch4 => v % 64
  | .ch3 => v

/-- The DAC condition of R341 on the value of NRn2, or of NR30 for channel 3. -/
def dacNumber (n : Chan) (v : Nat) : Bool :=
  match n with
  | .ch1 | .ch2 | .ch4 => decide (8 ≤ v)
  | .ch3 => decide (128 ≤ v)

/-- The envelope that a trigger loads from the value of NRn2 (R350 step 2). -/
structure Envelope.LoadedFrom (env : Envelope) (v : Nat) : Prop where
  pace : env.pace = v % 8
  cnt : env.cnt = if v % 8 = 0 then 8 else v % 8
  up : env.up = decide (v / 8 % 2 = 1)
  vol : env.vol = v / 16

/-- The envelope tick of R356 for one channel, `on` being its status bit: `e` before, `e'` after. -/
structure Envelope.TicksTo (on : Bool) (e e' : Envelope) : Prop where
  off : on = false → e' = e
  counting : on = true → 1 < e.cnt → e' = { e with cnt := e.cnt - 1 }
  sentinel : on = true → e.cnt ≤ 1 → e.pace = 0 → e' = { e with cnt := 8 }
  moving : on = true → e.cnt ≤ 1 → e.pace ≠ 0 →
    e' = { e with cnt := e.pace, vol := if e.up then (if e.vol < 15 then e.vol + 1 else e.vol) else e.vol - 1 }

/-! ## The shape of an accumulator operation (R200) -/

/-- `i` takes `len` bytes and `cost` ticks, leaves `a` in A and these flags, and changes nothing else. -/
def Accumulates (i : Instr) (s : State) (len : Addr) (cost a : Nat) (z n h c : Bool) : Prop :=
  ∃ t, exec i s = .next t ∧ t.a.toNat = a ∧ t.HasFlags z n h c ∧ s.RegsSameBut t [.a] ∧ t.sp = s.sp ∧
    s.Advances t len cost ∧ s.Quiet t

/-- The three source forms of an accumulator operation (R200): a register, the byte at HL, an immediate byte; A and the flags as
functions of the source value. -/
def AccumulatesFrom (op : AluOp) (s : State) (a : Nat → Nat) (z n h c : Nat → Bool) : Prop :=
  (∀ r : Reg8, let v := (s.reg8 r).toNat; Accumulates (Form.alu op (.reg r)) s 1 4 (a v) (z v) (n v) (h v) (c v)) ∧
    (let v := (s.read8 s.hl).toNat; Accumulates (Form.alu op .atHl) s 1 8 (a v) (z v) (n v) (h v) (c v)) ∧
      ∀ w : Byte, let v := w.toNat; Accumulates (Form.aluN8 op w) s 2 8 (a v) (z v) (n v) (h v) (c v)

/-! ## Operations of the rules written on numbers -/

/-- The value of R245 to R252, on the numbers of the pseudocode; `c` is the old carry. -/
def rotateNumber (o : RotOp) (v c : Nat) : Nat :=
  match o with
  | .rlc => (2 * v + v / 128) % 256
  | .rrc => v / 2 + 128 * (v % 2)
  | .rl => (2 * v + c) % 256
  | .rr => v / 2 + 128 * c
  | .sla => 2 * v % 256
  | .sra => v / 2 + 128 * (v / 128)
  | .swap => 16 * v % 256 + v / 16
  | .srl => v / 2

/-- The carry of R245 to R252. -/
def rotateCarry (o : RotOp) (v : Nat) : Bool :=
  match o with
  | .rlc | .rl | .sla => decide (v / 128 = 1)
  | .rrc | .rr | .sra | .srl => decide (v % 2 = 1)
  | .swap => false

/-- A of R213 after the adjustment. -/
def daaNumber (a : Nat) (n h c : Bool) : Nat :=
  if n then (a + 256 - ((if h then 6 else 0) + (if c then 96 else 0))) % 256
  else (a + ((if h = true ∨ 9 < a % 16 then 6 else 0) + (if c = true ∨ 0x99 < a then 96 else 0))) % 256

/-- C of R213. -/
def daaCarry (a : Nat) (n c : Bool) : Bool :=
  c || (!n && decide (0x99 < a))

end Sys2Proof.Machine
end

