-- ==== Sys2Proof/Certificates/Slice0/Obligations.lean ====
section
/-! DEFINITION. The statements for the provers. Each docstring names the rules of spec/ it formalises; `State.Quiet`, `State.Advances`,
`State.StoredByte` and the other terms are those of Safety.lean. -/

open Sys2Proof Sys2Proof.Machine

/-! ## Encoding -/

/-- Decoding the bytes of any instruction gives that instruction back, whatever bytes follow (30_encoding.md R121 to
R138). -/
def Obligations.DecodeOfEncodeIsTheInstruction : Prop :=
  ∀ (i : Instr) (rest : List Byte), decode (encode i ++ rest) = .ok (i, rest)

/-- Every three bytes begin with exactly the bytes of the instruction they decode to, at the length the first byte
tells (30_encoding.md R120 to R138). -/
def Obligations.EncodeOfDecodedBytesGivesThemBack : Prop :=
  ∀ op b1 b2 : Byte, encode (decodeWindow op b1 b2) = [op, b1, b2].take (lengthOf op)

/-- Words written out from the encodings of the spec decode to the instructions they stand for (30_encoding.md R127 to
R138). -/
def Obligations.WordsWrittenOutDecode : Prop :=
  decode [0b01000001] = .ok (.ldBC, []) ∧
    decode [0b00110110, 0x7F] = .ok (.ldAtHlN8 0x7F, []) ∧
    decode [0b00100001, 0x34, 0x12] = .ok (.ldHlN16 0x1234, []) ∧
    decode [0b11110101] = .ok (.pushAf, []) ∧
    decode [0b10011110] = .ok (.sbcAAtHl, []) ∧
    decode [0b00110100] = .ok (.incAtHl, []) ∧
    decode [0b00111001] = .ok (.addHlSp, []) ∧
    decode [0b11001011, 0b00101011] = .ok (.sraE, []) ∧
    decode [0b11001011, 0b01111100] = .ok (.bit7H, []) ∧
    decode [0b00110000, 0xFA] = .ok (.jrNcE8 0xFA, []) ∧
    decode [0b11001100, 0x00, 0x02] = .ok (.callZN16 0x0200, []) ∧
    decode [0b11101111] = .ok (.rst28, []) ∧
    decode [0b11011001] = .ok (.reti, []) ∧
    decode [0b01110110] = .ok (.halt, []) ∧
    decode [0b00010000, 0x99, 0x01] = .ok (.stop 0x99, [0x01])

/-! ## The step, interrupts and stops -/

/-- A step runs the decoded instruction and the interrupt check, or one idle tick in Halt or Stop, then the audio
steps due (model's choices: log 2, 8, 22) (60_exceptions.md R305, R314, R315, R358, 30_encoding.md R121,
70_reset_and_hazards.md R410, 46_system.md R291, R292). That a step is one iteration of the driving loop
(notes/assumptions/2.md), that under the halt bug the operand bytes are read from the opcode's own address on (8.md),
and that no check follows an instruction that entered Stop (22.md) are the model's choices. -/
def Obligations.StepRunsTheDecodedInstruction : Prop :=
  ∀ s u : State, u = s.takeHostMoves →
    (∀ (i : Instr) (rest : List Byte), u.execState = .normal →
      decode [u.read8 u.pc, u.read8 (if u.haltBug then u.pc else u.pc + 1),
        u.read8 ((if u.haltBug then u.pc else u.pc + 1) + 1)] = .ok (i, rest) →
      step s =
        Result.andThen
          (Result.andThen (exec i u.promoteEi) fun t => if t.execState = .stop then .next t else t.interruptCheck)
          fun t => .next t.apuCatchUp) ∧
    (u.execState = .halt →
      (u.ie.extractLsb' 0 5 &&& u.iflags = 0 → step s = .next ({ u with cycles := u.cycles + 4 } : State).apuCatchUp) ∧
      (u.ie.extractLsb' 0 5 &&& u.iflags ≠ 0 →
        step s =
          Result.andThen ({ u with cycles := u.cycles + 4, execState := .normal } : State).interruptCheck
            fun t => .next t.apuCatchUp)) ∧
    (u.execState = .stop →
      (u.p1.extractLsb' 0 4 = 0xF → step s = .next ({ u with cycles := u.cycles + 4 } : State).apuCatchUp) ∧
      (u.p1.extractLsb' 0 4 ≠ 0xF →
        step s = .next ({ u with cycles := u.cycles + 4, execState := .normal } : State).apuCatchUp))

/-- In Halt a step adds 4 cycles and wakes exactly on an enabled pending interrupt; in Stop exactly on a low button
line, never on an interrupt (R314, R315). -/
def Obligations.IdleStatesWaitForTheirEvents : Prop :=
  ∀ s : State,
    (s.execState = .halt →
      (s.ie.extractLsb' 0 5 &&& s.iflags = 0 → s.cpuStep = .next { s with cycles := s.cycles + 4 }) ∧
      (s.ie.extractLsb' 0 5 &&& s.iflags ≠ 0 → s.ime = false →
        s.cpuStep = .next { s with cycles := s.cycles + 4, execState := .normal }) ∧
      ∀ i : Fin 5, s.ime = true → s.ie.getLsbD i = true → s.iflags.getLsbD i = true →
        (∀ j : Fin 5, j < i → ¬(s.ie.getLsbD j = true ∧ s.iflags.getLsbD j = true)) →
        s.cpuStep = ({ s with cycles := s.cycles + 4, execState := .normal } : State).takeInterrupt i) ∧
    (s.execState = .stop →
      ((∀ k : Fin 4, s.p1.getLsbD k = true) → s.cpuStep = .next { s with cycles := s.cycles + 4 }) ∧
      ((∃ k : Fin 4, s.p1.getLsbD k = false) →
        s.cpuStep = .next { s with cycles := s.cycles + 4, execState := .normal }))

/-- The interrupt check dispatches the lowest-numbered pending source if IME is set, and otherwise changes nothing
(R304, R308). -/
def Obligations.CheckTakesTheLowestPendingSource : Prop :=
  ∀ s : State,
    (s.ime = false → s.interruptCheck = .next s) ∧
    ((∀ j : Fin 5, ¬(s.ie.getLsbD j = true ∧ s.iflags.getLsbD j = true)) → s.interruptCheck = .next s) ∧
    ∀ i : Fin 5, s.ime = true → s.ie.getLsbD i = true → s.iflags.getLsbD i = true →
      (∀ j : Fin 5, j < i → ¬(s.ie.getLsbD j = true ∧ s.iflags.getLsbD j = true)) →
      s.interruptCheck = s.takeInterrupt i

/-- Taking an interrupt acknowledges the request, clears IME and EI_PENDING, pushes PC, jumps to the vector and costs
20 (R306, R307). -/
def Obligations.DispatchPushesPcAndJumpsToTheVector : Prop :=
  ∀ (i : Fin 5) (s : State), s.TwoWritesOk (s.sp - 1) (hiByte s.pc) (s.sp - 2) (loByte s.pc) →
    ∃ t, s.takeInterrupt i = .next t ∧ t.pc.toNat = 0x40 + 8 * i.val ∧ t.sp = s.sp - 2 ∧ t.ime = false ∧ t.eiPending = false ∧
      t.cycles = s.cycles + 20 ∧ t.execState = s.execState ∧ s.RegsSameBut t [] ∧ t.f = s.f ∧ t.haltBug = s.haltBug ∧
      t.apuNext = s.apuNext ∧ t.params = s.params ∧ t.schedule = s.schedule ∧
      ∃ g : BitVec 5, (∀ j : Fin 5, g.getLsbD j = (s.iflags.getLsbD j && decide (j ≠ i))) ∧
        ({ s with iflags := g } : State).StoredTwo (s.sp - 1) (hiByte s.pc) (s.sp - 2) (loByte s.pc) t

/-- No interrupt is taken at the boundary after EI; a DI that follows closes the window before any check (R293, R294).
-/
def Obligations.EnableIsDelayedAndDisableIsNot : Prop :=
  ∀ s : State, s.execState = .normal → s.haltBug = false →
    (s.read8 s.pc = 0xFB → s.ime = false → s.eiPending = false →
      s.cpuStep = .next { s with pc := s.pc + 1, cycles := s.cycles + 4, eiPending := true }) ∧
    (s.read8 s.pc = 0xF3 →
      s.cpuStep = .next { s with pc := s.pc + 1, cycles := s.cycles + 4, eiPending := false, ime := false }) ∧
    (s.read8 s.pc = 0x00 → s.eiPending = true →
      s.cpuStep =
        ({ s with pc := s.pc + 1, cycles := s.cycles + 4, eiPending := false, ime := true } : State).interruptCheck)

/-- Each of the eleven unassigned first bytes faults with the byte and the address it was fetched from (R295). -/
def Obligations.UnassignedBytesFault : Prop :=
  ∀ s : State,
    exec .illegalD3 s = .fault (.illegalOpcode 0xD3 s.pc) ∧ exec .illegalDB s = .fault (.illegalOpcode 0xDB s.pc) ∧
    exec .illegalDD s = .fault (.illegalOpcode 0xDD s.pc) ∧ exec .illegalE3 s = .fault (.illegalOpcode 0xE3 s.pc) ∧
    exec .illegalE4 s = .fault (.illegalOpcode 0xE4 s.pc) ∧ exec .illegalEB s = .fault (.illegalOpcode 0xEB s.pc) ∧
    exec .illegalEC s = .fault (.illegalOpcode 0xEC s.pc) ∧ exec .illegalED s = .fault (.illegalOpcode 0xED s.pc) ∧
    exec .illegalF4 s = .fault (.illegalOpcode 0xF4 s.pc) ∧ exec .illegalFC s = .fault (.illegalOpcode 0xFC s.pc) ∧
    exec .illegalFD s = .fault (.illegalOpcode 0xFD s.pc)

/-- A write faults exactly when it puts an odd value into 0x6000 to 0x7FFF of an MBC1 cartridge; then no mode changes
(R97). -/
def Obligations.WritesFaultOnlyByTheModeSelect : Prop :=
  ∀ (s : State) (addr : Addr) (v : Byte),
    (s.cart.kind = .mbc1 ∧ 0x6000 ≤ addr.toNat ∧ addr.toNat ≤ 0x7FFF ∧ v.toNat % 2 = 1 →
      s.write8 addr v = .fault (.unsupportedMbc1Mode addr v)) ∧
    (¬(s.cart.kind = .mbc1 ∧ 0x6000 ≤ addr.toNat ∧ addr.toNat ≤ 0x7FFF ∧ v.toNat % 2 = 1) →
      s.write8 addr v = .next (s.store8 addr v)) ∧
    (s.cart.kind = .mbc1 → 0x6000 ≤ addr.toNat → addr.toNat ≤ 0x7FFF → v.toNat % 2 = 0 →
      s.store8 addr v = { s with cart := { s.cart with mode := .mode16x8 } })

/-- Every instruction completes but for the faults of R300; each storing form faults at the first of its writes that
selects the unsupported mode (60_exceptions.md R300, 00_scope.md R9, 20_memory.md R97). The address a CALL or RST
pushes under a pending halt bug is the model's choice (notes/assumptions/8.md). -/
def Obligations.EveryInstructionCompletesOrFaultsByName : Prop :=
  (∀ (i : Instr) (s : State),
      (i.WellFormed ∧ ∃ t, exec i s = .next t) ∨
      (¬i.WellFormed ∧ ∃ op, exec i s = .fault (.illegalOpcode op s.pc)) ∨
      (s.cart.kind = .mbc1 ∧ ∃ (addr : Addr) (v : Byte), 0x6000 ≤ addr.toNat ∧ addr.toNat ≤ 0x7FFF ∧ v.toNat % 2 = 1 ∧
        exec i s = .fault (.unsupportedMbc1Mode addr v)) ∨
      (i = .halt ∧ s.params.haltPendingIme0 = .fault ∧ s.ime = false ∧ s.pend ≠ 0 ∧ exec i s = .fault (.haltBug s.pc))) ∧
    ∀ s : State,
      (∀ src : Reg8, s.FaultsAtWrite (exec (Form.ldAtHlReg src) s) s.hl (s.reg8 src)) ∧
      (∀ n : Byte, s.FaultsAtWrite (exec (Form.ldN8 .atHl n) s) s.hl n) ∧
      (∀ p : Pointer, s.FaultsAtWrite (exec (Form.ldPointerA p) s) (s.pointerAddr p) s.a) ∧
      (∀ n : Addr, s.FaultsAtWrite (exec (.ldAtN16A n) s) n s.a) ∧
      (∀ n : Addr, s.FaultsAtWrites (exec (.ldAtN16Sp n) s) n (loByte s.sp) (n + 1) (hiByte s.sp)) ∧
      (∀ rr : StackReg,
        s.FaultsAtWrites (exec (Form.push rr) s) (s.sp - 1) (hiByte (s.stackReg rr)) (s.sp - 2) (loByte (s.stackReg rr))) ∧
      s.FaultsAtWrite (exec (Form.inc .atHl) s) s.hl (s.read8 s.hl + 1) ∧
      s.FaultsAtWrite (exec (Form.dec .atHl) s) s.hl (s.read8 s.hl - 1) ∧
      (∀ (o : RotOp) (w : Byte), w.toNat = rotateNumber o (s.read8 s.hl).toNat s.flagC.toNat →
        s.FaultsAtWrite (exec (Form.rot o .atHl) s) s.hl w) ∧
      (∀ (b : Fin 8) (w : Byte), (∀ k < 8, w.getLsbD k = ((s.read8 s.hl).getLsbD k && decide (k ≠ b.val))) →
        s.FaultsAtWrite (exec (Form.res b .atHl) s) s.hl w) ∧
      (∀ (b : Fin 8) (w : Byte), (∀ k < 8, w.getLsbD k = ((s.read8 s.hl).getLsbD k || decide (k = b.val))) →
        s.FaultsAtWrite (exec (Form.set b .atHl) s) s.hl w) ∧
      (∀ n : Addr,
        s.FaultsAtWrites (exec (.callN16 n) s) (s.sp - 1) (hiByte (s.pcAfter 3)) (s.sp - 2) (loByte (s.pcAfter 3))) ∧
      (∀ (k : Cond) (n : Addr), s.CondHolds k →
        s.FaultsAtWrites (exec (Form.callCc k n) s) (s.sp - 1) (hiByte (s.pcAfter 3)) (s.sp - 2) (loByte (s.pcAfter 3))) ∧
      ∀ y : Fin 8,
        s.FaultsAtWrites (exec (Form.rst y) s) (s.sp - 1) (hiByte (s.pcAfter 1)) (s.sp - 2) (loByte (s.pcAfter 1))

/-! ## 8-bit loads -/

/-- LD r,r' and LD r,n8 and LD r,(HL) write r and nothing else; the memory form reads at the old HL (R150, R151,
R152). -/
def Obligations.RegisterLoadsWriteOneRegister : Prop :=
  ∀ (dst : Reg8) (s : State),
    (∀ src : Reg8, ∃ t, exec (Form.ldRegReg dst src) s = .next t ∧ t.reg8 dst = s.reg8 src ∧ s.RegsSameBut t [dst] ∧
      t.f = s.f ∧ t.sp = s.sp ∧ s.Advances t 1 4 ∧ s.Quiet t) ∧
    (∀ n : Byte, ∃ t, exec (Form.ldN8 (.reg dst) n) s = .next t ∧ t.reg8 dst = n ∧ s.RegsSameBut t [dst] ∧
      t.f = s.f ∧ t.sp = s.sp ∧ s.Advances t 2 8 ∧ s.Quiet t) ∧
    ∃ t, exec (Form.ldRegAtHl dst) s = .next t ∧ t.reg8 dst = s.read8 (s.h ++ s.l) ∧ s.RegsSameBut t [dst] ∧
      t.f = s.f ∧ t.sp = s.sp ∧ s.Advances t 1 8 ∧ s.Quiet t

/-- The loads of A from (BC), (DE), (HL+), (HL-), (n16) and the high page write A, and step HL only in the HL forms
(R155, R156, R159, R161, R163, R165, R166). -/
def Obligations.AccumulatorLoadsReadTheirAddress : Prop :=
  ∀ s : State,
    (∃ t, exec .ldAAtBc s = .next t ∧ t.a = s.read8 (s.b ++ s.c) ∧ s.RegsSameBut t [.a] ∧ t.f = s.f ∧ t.sp = s.sp ∧
      s.Advances t 1 8 ∧ s.Quiet t) ∧
    (∃ t, exec .ldAAtDe s = .next t ∧ t.a = s.read8 (s.d ++ s.e) ∧ s.RegsSameBut t [.a] ∧ t.f = s.f ∧ t.sp = s.sp ∧
      s.Advances t 1 8 ∧ s.Quiet t) ∧
    (∃ t, exec .ldAAtHlInc s = .next t ∧ t.a = s.read8 (s.h ++ s.l) ∧ (t.h ++ t.l).toNat = ((s.h ++ s.l).toNat + 1) % 65536 ∧
      s.RegsSameBut t [.a, .h, .l] ∧ t.f = s.f ∧ t.sp = s.sp ∧ s.Advances t 1 8 ∧ s.Quiet t) ∧
    (∃ t, exec .ldAAtHlDec s = .next t ∧ t.a = s.read8 (s.h ++ s.l) ∧
      (t.h ++ t.l).toNat = ((s.h ++ s.l).toNat + 65535) % 65536 ∧
      s.RegsSameBut t [.a, .h, .l] ∧ t.f = s.f ∧ t.sp = s.sp ∧ s.Advances t 1 8 ∧ s.Quiet t) ∧
    (∀ n : Addr, ∃ t, exec (.ldAAtN16 n) s = .next t ∧ t.a = s.read8 n ∧ s.RegsSameBut t [.a] ∧ t.f = s.f ∧ t.sp = s.sp ∧
      s.Advances t 3 16 ∧ s.Quiet t) ∧
    (∃ t, exec .ldhAAtC s = .next t ∧ t.a = s.read8 (0xFF#8 ++ s.c) ∧ s.RegsSameBut t [.a] ∧ t.f = s.f ∧ t.sp = s.sp ∧
      s.Advances t 1 8 ∧ s.Quiet t) ∧
    ∀ n : Byte, ∃ t, exec (.ldhAAtN8 n) s = .next t ∧ t.a = s.read8 (0xFF#8 ++ n) ∧ s.RegsSameBut t [.a] ∧ t.f = s.f ∧
      t.sp = s.sp ∧ s.Advances t 2 12 ∧ s.Quiet t

/-- LD (HL),r and LD (HL),n8 store one byte at HL and change no register and no flag (R153, R154). -/
def Obligations.StoresAtHlWriteOneByte : Prop :=
  ∀ s : State,
    (∀ src : Reg8, s.writeFaults s.hl (s.reg8 src) = false →
      ∃ t, exec (Form.ldAtHlReg src) s = .next t ∧ s.StoredByte s.hl (s.reg8 src) t ∧ s.RegsSameBut t [] ∧ t.f = s.f ∧
        t.sp = s.sp ∧ s.Advances t 1 8 ∧ s.ControlSame t) ∧
    ∀ n : Byte, s.writeFaults s.hl n = false →
      ∃ t, exec (Form.ldN8 .atHl n) s = .next t ∧ s.StoredByte s.hl n t ∧ s.RegsSameBut t [] ∧ t.f = s.f ∧ t.sp = s.sp ∧
        s.Advances t 2 12 ∧ s.ControlSame t

/-- The stores of A to (BC), (DE), (HL+), (HL-), (n16) and the high page store A there, and step HL only in the HL
forms (R157, R158, R160, R162, R164, R167, R168). -/
def Obligations.AccumulatorStoresWriteOneByte : Prop :=
  ∀ s : State,
    (∀ p : Pointer, s.writeFaults (s.pointerAddr p) s.a = false →
      ∃ t, exec (Form.ldPointerA p) s = .next t ∧ s.StoredByte (s.pointerAddr p) s.a t ∧
        (t.h ++ t.l).toNat =
          (match p with
            | .bc | .de => (s.h ++ s.l).toNat
            | .hlInc => ((s.h ++ s.l).toNat + 1) % 65536
            | .hlDec => ((s.h ++ s.l).toNat + 65535) % 65536) ∧
        s.RegsSameBut t [.h, .l] ∧ t.f = s.f ∧ t.sp = s.sp ∧ s.Advances t 1 8 ∧ s.ControlSame t) ∧
    (∀ n : Addr, s.writeFaults n s.a = false →
      ∃ t, exec (.ldAtN16A n) s = .next t ∧ s.StoredByte n s.a t ∧ s.RegsSameBut t [] ∧ t.f = s.f ∧ t.sp = s.sp ∧
        s.Advances t 3 16 ∧ s.ControlSame t) ∧
    (∃ t, exec .ldhAtCA s = .next t ∧ s.StoredByte (0xFF#8 ++ s.c) s.a t ∧ s.RegsSameBut t [] ∧ t.f = s.f ∧ t.sp = s.sp ∧
      s.Advances t 1 8 ∧ s.ControlSame t) ∧
    ∀ n : Byte, ∃ t, exec (.ldhAtN8A n) s = .next t ∧ s.StoredByte (0xFF#8 ++ n) s.a t ∧ s.RegsSameBut t [] ∧ t.f = s.f ∧
      t.sp = s.sp ∧ s.Advances t 2 12 ∧ s.ControlSame t

/-! ## 16-bit loads and the stack -/

/-- LD rr,n16 and LD SP,HL write the pair or SP and nothing else (R180, R182). -/
def Obligations.PairLoadsWriteOnePair : Prop :=
  ∀ s : State,
    (∀ (rr : Reg16) (n : Addr), ∃ t, exec (Form.ldRrN16 rr n) s = .next t ∧ t.reg16 rr = n ∧
      (∀ q, q ≠ rr → t.reg16 q = s.reg16 q) ∧ t.a = s.a ∧ t.f = s.f ∧ s.Advances t 3 12 ∧ s.Quiet t) ∧
    ∃ t, exec .ldSpHl s = .next t ∧ t.sp = s.h ++ s.l ∧ s.RegsSameBut t [] ∧ t.f = s.f ∧ s.Advances t 1 8 ∧ s.Quiet t

/-- LD (n16),SP stores the low byte of SP at n16 and then the high byte at n16 + 1 (R181). -/
def Obligations.StackPointerStoreWritesLowByteFirst : Prop :=
  ∀ (n : Addr) (s : State), s.TwoWritesOk n (loByte s.sp) (n + 1) (hiByte s.sp) →
    ∃ t, exec (.ldAtN16Sp n) s = .next t ∧ s.StoredTwo n (loByte s.sp) (n + 1) (hiByte s.sp) t ∧ s.RegsSameBut t [] ∧
      t.f = s.f ∧ t.sp = s.sp ∧ s.Advances t 3 20 ∧ s.ControlSame t

/-- LD HL,SP+e8 and ADD SP,e8 add the signed byte; H and C are the carries of the unsigned low-byte sum (R183, R233).
-/
def Obligations.SpPlusOffsetSums : Prop :=
  ∀ (e : Byte) (s : State),
    (∃ t, exec (.ldHlSpE8 e) s = .next t ∧ ((t.h ++ t.l).toNat : Int) = ((s.sp.toNat : Int) + e.toInt) % 65536 ∧
      s.RegsSameBut t [.h, .l] ∧ t.sp = s.sp ∧
      t.HasFlags false false (decide (15 < s.sp.toNat % 16 + e.toNat % 16)) (decide (255 < s.sp.toNat % 256 + e.toNat)) ∧
      s.Advances t 2 12 ∧ s.Quiet t) ∧
    ∃ t, exec (.addSpE8 e) s = .next t ∧ (t.sp.toNat : Int) = ((s.sp.toNat : Int) + e.toInt) % 65536 ∧ s.RegsSameBut t [] ∧
      t.HasFlags false false (decide (15 < s.sp.toNat % 16 + e.toNat % 16)) (decide (255 < s.sp.toNat % 256 + e.toNat)) ∧
      s.Advances t 2 16 ∧ s.Quiet t

/-- PUSH rr stores the high byte at SP-1 and the low byte at SP-2 and lowers SP by 2 (R184). -/
def Obligations.PushStoresHighByteThenLowByte : Prop :=
  ∀ (rr : StackReg) (s : State),
    s.TwoWritesOk (s.sp - 1) (hiByte (s.stackReg rr)) (s.sp - 2) (loByte (s.stackReg rr)) →
    ∃ t, exec (Form.push rr) s = .next t ∧
      s.StoredTwo (s.sp - 1) (hiByte (s.stackReg rr)) (s.sp - 2) (loByte (s.stackReg rr)) t ∧ t.sp = s.sp - 2 ∧
      s.RegsSameBut t [] ∧ t.f = s.f ∧ s.Advances t 1 16 ∧ s.ControlSame t

/-- POP rr loads the low register from SP and the high register from SP+1 and raises SP by 2; POP AF drops the low
nibble of F (R185, R22). -/
def Obligations.PopReadsLowByteThenHighByte : Prop :=
  ∀ (rr : StackReg) (s : State), ∃ t, exec (Form.pop rr) s = .next t ∧
    (match rr with
      | .bc => t.b = s.read8 (s.sp + 1) ∧ t.c = s.read8 s.sp ∧ s.RegsSameBut t [.b, .c] ∧ t.f = s.f
      | .de => t.d = s.read8 (s.sp + 1) ∧ t.e = s.read8 s.sp ∧ s.RegsSameBut t [.d, .e] ∧ t.f = s.f
      | .hl => t.h = s.read8 (s.sp + 1) ∧ t.l = s.read8 s.sp ∧ s.RegsSameBut t [.h, .l] ∧ t.f = s.f
      | .af => t.a = s.read8 (s.sp + 1) ∧ t.f.toNat = (s.read8 s.sp).toNat / 16 * 16 ∧ s.RegsSameBut t [.a]) ∧
    t.sp = s.sp + 2 ∧ s.Advances t 1 12 ∧ s.Quiet t

/-! ## 8-bit arithmetic and logic -/

/-- ADD and ADC leave the sum modulo 256 in A with the carries out of bit 3 and bit 7, in all three source forms
(R200, R201, R202). -/
def Obligations.AdditionsSetAccumulatorAndFlags : Prop :=
  ∀ s : State,
    AccumulatesFrom .add s (fun v => (s.a.toNat + v) % 256) (fun v => decide ((s.a.toNat + v) % 256 = 0)) (fun _ => false)
      (fun v => decide (15 < s.a.toNat % 16 + v % 16)) (fun v => decide (255 < s.a.toNat + v)) ∧
    AccumulatesFrom .adc s (fun v => (s.a.toNat + v + s.flagC.toNat) % 256)
      (fun v => decide ((s.a.toNat + v + s.flagC.toNat) % 256 = 0)) (fun _ => false)
      (fun v => decide (15 < s.a.toNat % 16 + v % 16 + s.flagC.toNat)) (fun v => decide (255 < s.a.toNat + v + s.flagC.toNat))

/-- SUB, SBC and CP compute A - v - c with the borrows from bit 4 and bit 8; CP leaves A alone (R200, R203, R204,
R208). -/
def Obligations.SubtractionsSetAccumulatorAndFlags : Prop :=
  ∀ s : State,
    AccumulatesFrom .sub s (fun v => (s.a.toNat + 256 - v) % 256) (fun v => decide ((s.a.toNat + 256 - v) % 256 = 0))
      (fun _ => true) (fun v => decide (s.a.toNat % 16 < v % 16)) (fun v => decide (s.a.toNat < v)) ∧
    AccumulatesFrom .sbc s (fun v => (s.a.toNat + 512 - v - s.flagC.toNat) % 256)
      (fun v => decide ((s.a.toNat + 512 - v - s.flagC.toNat) % 256 = 0)) (fun _ => true)
      (fun v => decide (s.a.toNat % 16 < v % 16 + s.flagC.toNat)) (fun v => decide (s.a.toNat < v + s.flagC.toNat)) ∧
    AccumulatesFrom .cp s (fun _ => s.a.toNat) (fun v => decide (s.a.toNat = v)) (fun _ => true)
      (fun v => decide (s.a.toNat % 16 < v % 16)) (fun v => decide (s.a.toNat < v))

/-- AND, XOR and OR leave the bitwise result in A; Z tells zero, N and C are 0, H is 1 for AND only (R200, R205, R206,
R207). -/
def Obligations.LogicSetsAccumulatorAndFlags : Prop :=
  ∀ s : State,
    AccumulatesFrom .and s (fun v => s.a.toNat &&& v) (fun v => decide (s.a.toNat &&& v = 0)) (fun _ => false) (fun _ => true)
      (fun _ => false) ∧
    AccumulatesFrom .xor s (fun v => s.a.toNat ^^^ v) (fun v => decide (s.a.toNat = v)) (fun _ => false) (fun _ => false)
      (fun _ => false) ∧
    AccumulatesFrom .or s (fun v => s.a.toNat ||| v) (fun v => decide (s.a.toNat = 0 ∧ v = 0)) (fun _ => false) (fun _ => false)
      (fun _ => false)

/-- INC r and DEC r wrap modulo 256, set Z, N and H from the value, and keep C (R209, R211). -/
def Obligations.IncrementAndDecrementKeepCarry : Prop :=
  ∀ (r : Reg8) (s : State),
    (∃ t, exec (Form.inc (.reg r)) s = .next t ∧ (t.reg8 r).toNat = ((s.reg8 r).toNat + 1) % 256 ∧ s.RegsSameBut t [r] ∧
      t.HasFlags (decide ((s.reg8 r).toNat = 255)) false (decide ((s.reg8 r).toNat % 16 = 15)) s.flagC ∧ t.sp = s.sp ∧
      s.Advances t 1 4 ∧ s.Quiet t) ∧
    ∃ t, exec (Form.dec (.reg r)) s = .next t ∧ (t.reg8 r).toNat = ((s.reg8 r).toNat + 255) % 256 ∧ s.RegsSameBut t [r] ∧
      t.HasFlags (decide ((s.reg8 r).toNat = 1)) true (decide ((s.reg8 r).toNat % 16 = 0)) s.flagC ∧ t.sp = s.sp ∧
      s.Advances t 1 4 ∧ s.Quiet t

/-- INC (HL) and DEC (HL) read and write the byte at HL; the flags come from the value read; C is kept (R210, R212).
-/
def Obligations.IncrementAndDecrementOfMemory : Prop :=
  ∀ s : State,
    (s.writeFaults s.hl (s.read8 s.hl + 1) = false →
      ∃ t, exec (Form.inc .atHl) s = .next t ∧ s.StoredByte s.hl (s.read8 s.hl + 1) t ∧
        t.HasFlags (decide ((s.read8 s.hl).toNat = 255)) false (decide ((s.read8 s.hl).toNat % 16 = 15)) s.flagC ∧
        s.RegsSameBut t [] ∧ t.sp = s.sp ∧ s.Advances t 1 12 ∧ s.ControlSame t) ∧
    (s.writeFaults s.hl (s.read8 s.hl - 1) = false →
      ∃ t, exec (Form.dec .atHl) s = .next t ∧ s.StoredByte s.hl (s.read8 s.hl - 1) t ∧
        t.HasFlags (decide ((s.read8 s.hl).toNat = 1)) true (decide ((s.read8 s.hl).toNat % 16 = 0)) s.flagC ∧
        s.RegsSameBut t [] ∧ t.sp = s.sp ∧ s.Advances t 1 12 ∧ s.ControlSame t)

/-- DAA adjusts A by the rule's two branches; Z from the result, N kept, H cleared, C kept or set (R213). -/
def Obligations.DecimalAdjustFollowsTheRule : Prop :=
  ∀ s : State, Accumulates .daa s 1 4 (daaNumber s.a.toNat s.flagN s.flagH s.flagC)
    (decide (daaNumber s.a.toNat s.flagN s.flagH s.flagC = 0)) s.flagN false (daaCarry s.a.toNat s.flagN s.flagC)

/-- CPL complements A and sets N and H; SCF sets C, CCF complements it, both clear N and H (R214, R215, R216). -/
def Obligations.ComplementsAndCarryInstructions : Prop :=
  ∀ s : State,
    Accumulates .cpl s 1 4 (255 - s.a.toNat) s.flagZ true true s.flagC ∧
    Accumulates .scf s 1 4 s.a.toNat s.flagZ false false true ∧
    Accumulates .ccf s 1 4 s.a.toNat s.flagZ false false (!s.flagC)

/-! ## 16-bit arithmetic -/

/-- ADD HL,rr adds modulo 65536 with the carries out of bit 11 and bit 15 and keeps Z (R230). -/
def Obligations.AddToHlKeepsZ : Prop :=
  ∀ (rr : Reg16) (s : State), ∃ t, exec (Form.addHlRr rr) s = .next t ∧
    (t.h ++ t.l).toNat = ((s.h ++ s.l).toNat + (s.reg16 rr).toNat) % 65536 ∧ s.RegsSameBut t [.h, .l] ∧ t.sp = s.sp ∧
    t.HasFlags s.flagZ false (decide (0xFFF < (s.h ++ s.l).toNat % 4096 + (s.reg16 rr).toNat % 4096))
      (decide (0xFFFF < (s.h ++ s.l).toNat + (s.reg16 rr).toNat)) ∧
    s.Advances t 1 8 ∧ s.Quiet t

/-- INC rr and DEC rr wrap modulo 65536 and change no flag and nothing else (R231, R232). -/
def Obligations.PairIncrementAndDecrementSetNoFlag : Prop :=
  ∀ (rr : Reg16) (s : State),
    (∃ t, exec (Form.incRr rr) s = .next t ∧ (t.reg16 rr).toNat = ((s.reg16 rr).toNat + 1) % 65536 ∧
      (∀ q, q ≠ rr → t.reg16 q = s.reg16 q) ∧ t.a = s.a ∧ t.f = s.f ∧ s.Advances t 1 8 ∧ s.Quiet t) ∧
    ∃ t, exec (Form.decRr rr) s = .next t ∧ (t.reg16 rr).toNat = ((s.reg16 rr).toNat + 65535) % 65536 ∧
      (∀ q, q ≠ rr → t.reg16 q = s.reg16 q) ∧ t.a = s.a ∧ t.f = s.f ∧ s.Advances t 1 8 ∧ s.Quiet t

/-! ## Rotates, shifts and bits -/

/-- RLCA, RRCA, RLA and RRA rotate A, put the bit rotated out in C, and always clear Z (R240, R241, R242, R243). -/
def Obligations.AccumulatorRotatesClearZ : Prop :=
  ∀ s : State,
    Accumulates .rlca s 1 4 (rotateNumber .rlc s.a.toNat s.flagC.toNat) false false false (rotateCarry .rlc s.a.toNat) ∧
    Accumulates .rrca s 1 4 (rotateNumber .rrc s.a.toNat s.flagC.toNat) false false false (rotateCarry .rrc s.a.toNat) ∧
    Accumulates .rla s 1 4 (rotateNumber .rl s.a.toNat s.flagC.toNat) false false false (rotateCarry .rl s.a.toNat) ∧
    Accumulates .rra s 1 4 (rotateNumber .rr s.a.toNat s.flagC.toNat) false false false (rotateCarry .rr s.a.toNat)

/-- The eight prefixed rotates and shifts of a register write the rotated value, Z from it and C from the bit shifted
out (R245, R246, R247, R248, R249, R250, R251, R252). -/
def Obligations.RotatesAndShiftsOfRegisters : Prop :=
  ∀ (o : RotOp) (r : Reg8) (s : State), ∃ t, exec (Form.rot o (.reg r)) s = .next t ∧
    (t.reg8 r).toNat = rotateNumber o (s.reg8 r).toNat s.flagC.toNat ∧ s.RegsSameBut t [r] ∧
    t.HasFlags (decide (rotateNumber o (s.reg8 r).toNat s.flagC.toNat = 0)) false false (rotateCarry o (s.reg8 r).toNat) ∧
    t.sp = s.sp ∧ s.Advances t 2 8 ∧ s.Quiet t

/-- The eight prefixed rotates and shifts of (HL) read the byte at HL once and write the result there once
(44_rotate_shift_bit.md R244 to R252, 20_memory.md R78). -/
def Obligations.RotatesAndShiftsOfMemory : Prop :=
  ∀ (o : RotOp) (s : State) (w : Byte), w.toNat = rotateNumber o (s.read8 s.hl).toNat s.flagC.toNat →
    s.writeFaults s.hl w = false →
    ∃ t, exec (Form.rot o .atHl) s = .next t ∧ s.StoredByte s.hl w t ∧
      t.HasFlags (decide (w = 0)) false false (rotateCarry o (s.read8 s.hl).toNat) ∧ s.RegsSameBut t [] ∧ t.sp = s.sp ∧
      s.Advances t 2 16 ∧ s.ControlSame t

/-- BIT b,t sets Z to the complement of the bit, clears N, sets H, keeps C and writes nothing (R253). -/
def Obligations.BitTestSetsZFromTheBit : Prop :=
  ∀ (b : Fin 8) (s : State),
    (∀ r : Reg8, ∃ t, exec (Form.bit b (.reg r)) s = .next t ∧
      t.HasFlags (decide ((s.reg8 r).toNat / 2 ^ b.val % 2 = 0)) false true s.flagC ∧ s.RegsSameBut t [] ∧ t.sp = s.sp ∧
      s.Advances t 2 8 ∧ s.Quiet t) ∧
    ∃ t, exec (Form.bit b .atHl) s = .next t ∧
      t.HasFlags (decide ((s.read8 s.hl).toNat / 2 ^ b.val % 2 = 0)) false true s.flagC ∧ s.RegsSameBut t [] ∧ t.sp = s.sp ∧
      s.Advances t 2 12 ∧ s.Quiet t

/-- RES b,r and SET b,r change exactly the one bit of the register and no flag (44_rotate_shift_bit.md R244, R254,
R255). -/
def Obligations.ResetAndSetOfRegisterBits : Prop :=
  ∀ (b : Fin 8) (r : Reg8) (s : State),
    (∃ t, exec (Form.res b (.reg r)) s = .next t ∧
      (∀ k < 8, (t.reg8 r).getLsbD k = ((s.reg8 r).getLsbD k && decide (k ≠ b.val))) ∧ s.RegsSameBut t [r] ∧ t.f = s.f ∧
      t.sp = s.sp ∧ s.Advances t 2 8 ∧ s.Quiet t) ∧
    ∃ t, exec (Form.set b (.reg r)) s = .next t ∧
      (∀ k < 8, (t.reg8 r).getLsbD k = ((s.reg8 r).getLsbD k || decide (k = b.val))) ∧ s.RegsSameBut t [r] ∧ t.f = s.f ∧
      t.sp = s.sp ∧ s.Advances t 2 8 ∧ s.Quiet t

/-- RES b,(HL) and SET b,(HL) write the byte at HL back with the one bit changed, also when it had that value already
(44_rotate_shift_bit.md R244, R254, R255, 20_memory.md R78). -/
def Obligations.ResetAndSetOfMemoryBits : Prop :=
  ∀ (b : Fin 8) (s : State) (w : Byte),
    ((∀ k < 8, w.getLsbD k = ((s.read8 s.hl).getLsbD k && decide (k ≠ b.val))) → s.writeFaults s.hl w = false →
      ∃ t, exec (Form.res b .atHl) s = .next t ∧ s.StoredByte s.hl w t ∧ s.RegsSameBut t [] ∧ t.f = s.f ∧ t.sp = s.sp ∧
        s.Advances t 2 16 ∧ s.ControlSame t) ∧
    ((∀ k < 8, w.getLsbD k = ((s.read8 s.hl).getLsbD k || decide (k = b.val))) → s.writeFaults s.hl w = false →
      ∃ t, exec (Form.set b .atHl) s = .next t ∧ s.StoredByte s.hl w t ∧ s.RegsSameBut t [] ∧ t.f = s.f ∧ t.sp = s.sp ∧
        s.Advances t 2 16 ∧ s.ControlSame t)

/-! ## Jumps, calls and returns -/

/-- JP, JP cc, JP HL, JR and JR cc go to their target, or past themselves at the lower cost, and change nothing else
(halt bug: log 8) (45_control_flow.md R270 to R275, 46_system.md R291). That under a pending halt bug the address
after the instruction, from which JR counts, is one less is the model's choice (notes/assumptions/8.md). -/
def Obligations.JumpsGoToTheirTarget : Prop :=
  ∀ s : State,
    (∀ n : Addr, ∃ t, exec (.jpN16 n) s = .next t ∧ s.GoesTo t n 16) ∧
    (∃ t, exec .jpHl s = .next t ∧ s.GoesTo t (s.h ++ s.l) 4) ∧
    (∀ e : Byte, ∃ t, exec (.jrE8 e) s = .next t ∧ s.GoesTo t (s.pcAfter 2 + BitVec.ofInt 16 e.toInt) 12) ∧
    (∀ (k : Cond) (n : Addr), ∃ t, exec (Form.jpCc k n) s = .next t ∧ (s.CondHolds k → s.GoesTo t n 16) ∧
      (¬s.CondHolds k → s.GoesTo t (s.pcAfter 3) 12)) ∧
    ∀ (k : Cond) (e : Byte), ∃ t, exec (Form.jrCc k e) s = .next t ∧
      (s.CondHolds k → s.GoesTo t (s.pcAfter 2 + BitVec.ofInt 16 e.toInt) 12) ∧
      (¬s.CondHolds k → s.GoesTo t (s.pcAfter 2) 8)

/-- CALL, a taken CALL cc and RST push the address after the instruction and go to the target; an untaken CALL cc
pushes nothing (halt bug: log 8) (45_control_flow.md R276, R277, R281, 46_system.md R291). That under a pending halt
bug the pushed address is one less, the PC the instruction then has, is the model's choice (notes/assumptions/8.md); a
push that selects the unsupported mapper mode faults as EveryInstructionCompletesOrFaultsByName says. -/
def Obligations.CallsPushTheReturnAddress : Prop :=
  ∀ s : State,
    (s.TwoWritesOk (s.sp - 1) (hiByte (s.pcAfter 3)) (s.sp - 2) (loByte (s.pcAfter 3)) → ∀ n : Addr,
      ∃ t, exec (.callN16 n) s = .next t ∧ s.CallsTo t (s.pcAfter 3) n 24) ∧
    (∀ (k : Cond) (n : Addr), ¬s.CondHolds k → ∃ t, exec (Form.callCc k n) s = .next t ∧ s.GoesTo t (s.pcAfter 3) 12) ∧
    (s.TwoWritesOk (s.sp - 1) (hiByte (s.pcAfter 3)) (s.sp - 2) (loByte (s.pcAfter 3)) → ∀ (k : Cond) (n : Addr),
      s.CondHolds k → ∃ t, exec (Form.callCc k n) s = .next t ∧ s.CallsTo t (s.pcAfter 3) n 24) ∧
    (s.TwoWritesOk (s.sp - 1) (hiByte (s.pcAfter 1)) (s.sp - 2) (loByte (s.pcAfter 1)) → ∀ y : Fin 8,
      ∃ t, exec (Form.rst y) s = .next t ∧ s.CallsTo t (s.pcAfter 1) (BitVec.ofNat 16 (8 * y.val)) 16)

/-- RET, a taken RET cc and RETI go to the popped address; RETI sets IME at once; an untaken RET cc reads no stack
(R278, R279, R280). -/
def Obligations.ReturnsPopTheirAddress : Prop :=
  ∀ s : State,
    (∃ t, exec .ret s = .next t ∧ s.ReturnsTo t 16 ∧ s.ControlSame t) ∧
    (∃ t, exec .reti s = .next t ∧ s.ReturnsTo t 16 ∧ t.ime = true ∧ ({ s with ime := true } : State).ControlSame t) ∧
    ∀ k : Cond, ∃ t, exec (Form.retCc k) s = .next t ∧ (s.CondHolds k → s.ReturnsTo t 20 ∧ s.ControlSame t) ∧
      (¬s.CondHolds k → s.GoesTo t (s.pcAfter 1) 8)

/-! ## System instructions -/

/-- NOP only advances; STOP skips its second byte and enters Stop; DI clears IME and EI_PENDING; EI sets EI_PENDING
(46_system.md R290, R292, R293, R294). -/
def Obligations.NopStopDiEiChangeOnlyControl : Prop :=
  ∀ s : State,
    exec .nop s = .next { s with pc := s.pcAfter 1, haltBug := false, cycles := s.cycles + 4 } ∧
    (∀ x : Byte,
      exec (.stop x) s = .next { s with pc := s.pcAfter 2, haltBug := false, cycles := s.cycles + 4, execState := .stop }) ∧
    exec .di s =
      .next { s with pc := s.pcAfter 1, haltBug := false, cycles := s.cycles + 4, ime := false, eiPending := false } ∧
    exec .ei s = .next { s with pc := s.pcAfter 1, haltBug := false, cycles := s.cycles + 4, eiPending := true }

/-- HALT enters Halt when nothing is pending; otherwise it passes, and with IME clear does what HALT_PENDING_IME0 says
(46_system.md R291). -/
def Obligations.HaltEntersHaltOnlyWithNothingPending : Prop :=
  ∀ s : State,
    (s.ie.extractLsb' 0 5 &&& s.iflags = 0 →
      exec .halt s = .next { s with pc := s.pcAfter 1, haltBug := false, cycles := s.cycles + 4, execState := .halt }) ∧
    (s.ie.extractLsb' 0 5 &&& s.iflags ≠ 0 → s.ime = true ∨ s.params.haltPendingIme0 = .resume →
      exec .halt s = .next { s with pc := s.pcAfter 1, haltBug := false, cycles := s.cycles + 4 }) ∧
    (s.ie.extractLsb' 0 5 &&& s.iflags ≠ 0 → s.ime = false → s.params.haltPendingIme0 = .fault →
      exec .halt s = .fault (.haltBug s.pc)) ∧
    (s.ie.extractLsb' 0 5 &&& s.iflags ≠ 0 → s.ime = false → s.params.haltPendingIme0 = .bug →
      exec .halt s = .next { s with pc := s.pcAfter 1, haltBug := true, cycles := s.cycles + 4 })

/-! ## Memory and cartridge -/

/-- A read after a write returns the byte in plain storage and what P1 and IF keep of it; the audio window reads its
stored bytes with their masks (20_memory.md R62, R63, R66, R68, R70, R71, R72, R74, R75, 10_state.md R30, R31, R32,
60_exceptions.md R341, R343, R351). -/
def Obligations.StoreThenReadGivesTheByte : Prop :=
  ∀ (s : State) (addr : Addr) (v : Byte), s.memoryWf = true →
    (region addr = .vram ∨ region addr = .wram ∨ region addr = .echo ∨ region addr = .oam ∨ region addr = .hram ∨
      region addr = .ie ∨ (region addr = .io ∧ addr ≠ 0xFF00 ∧ addr ≠ 0xFF0F ∧ ¬(0xFF10 ≤ addr.toNat ∧ addr.toNat ≤ 0xFF3F)) →
      (s.store8 addr v).read8 addr = v) ∧
    (addr = 0xFF00 → ((s.store8 addr v).read8 addr).toNat = 0xC0 + v.toNat / 16 % 4 * 16 + s.p1.toNat % 16) ∧
    (addr = 0xFF0F → ((s.store8 addr v).read8 addr).toNat = 0xE0 + v.toNat % 32) ∧
    (0xFEA0 ≤ addr.toNat → addr.toNat ≤ 0xFEFF → s.store8 addr v = s ∧ s.read8 addr = s.params.unmapped) ∧
    (0xFF30 ≤ addr.toNat → addr.toNat ≤ 0xFF3F → (s.store8 addr v).read8 addr = v) ∧
    (∀ k < 0x30, k ≠ 0x16 →
      s.read8 (BitVec.ofNat 16 (0xFF10 + k)) =
        s.apu.reg k |||
          (if k < 0x16 then
            ([0x80, 0x3F, 0x00, 0xFF, 0xBF, 0xFF, 0x3F, 0x00, 0xFF, 0xBF, 0x7F, 0xFF, 0x9F, 0xFF, 0xBF, 0xFF, 0xFF, 0x00, 0x00,
              0xBF, 0x00, 0x00] : List Byte).getD k 0
          else if k < 0x20 then 0xFF
          else 0x00)) ∧
    (s.read8 0xFF26).toNat =
      128 * s.apu.power.toNat + 112 + 8 * s.apu.on4.toNat + 4 * s.apu.on3.toNat + 2 * s.apu.on2.toNat + s.apu.on1.toNat

/-- A store changes no register and no control state, and leaves the reading of every address it does not reach
(20_memory.md R61, R63, R69, R79, R92 to R97, 60_exceptions.md R344 to R351). -/
def Obligations.StoreReachesOnlyItsCells : Prop :=
  ∀ (s : State) (addr : Addr) (v : Byte),
    (∀ a : Addr, s.reaches addr a = false → (s.store8 addr v).read8 a = s.read8 a) ∧
    s.RegsSameBut (s.store8 addr v) [] ∧ (s.store8 addr v).f = s.f ∧ (s.store8 addr v).sp = s.sp ∧
    (s.store8 addr v).pc = s.pc ∧ (s.store8 addr v).cycles = s.cycles ∧ (s.store8 addr v).haltBug = s.haltBug ∧
    s.ControlSame (s.store8 addr v) ∧ (s.store8 addr v).cart.rom = s.cart.rom ∧ (s.store8 addr v).cart.kind = s.cart.kind ∧
    (s.store8 addr v).cart.romBanks = s.cart.romBanks ∧ (s.store8 addr v).cart.ramSize = s.cart.ramSize

/-- A byte written through either work-RAM address is read through the other, and the two writes are the same write
(R69). -/
def Obligations.EchoIsTheSameStorage : Prop :=
  ∀ (s : State) (k : Nat) (v : Byte), k ≤ 0x1DFF →
    s.read8 (BitVec.ofNat 16 (0xE000 + k)) = s.read8 (BitVec.ofNat 16 (0xC000 + k)) ∧
    s.store8 (BitVec.ofNat 16 (0xE000 + k)) v = s.store8 (BitVec.ofNat 16 (0xC000 + k)) v ∧
    (s.memoryWf = true →
      (s.store8 (BitVec.ofNat 16 (0xE000 + k)) v).read8 (BitVec.ofNat 16 (0xC000 + k)) = v ∧
      (s.store8 (BitVec.ofNat 16 (0xC000 + k)) v).read8 (BitVec.ofNat 16 (0xE000 + k)) = v)

/-- On a ROM-only cartridge writes to the cartridge windows change nothing; reads give the image, and the unmapped
value above (R91, R92). -/
def Obligations.RomOnlyCartridgeIgnoresWrites : Prop :=
  ∀ (s : State) (addr : Addr) (v : Byte), s.cart.kind = .romOnly →
    (addr.toNat ≤ 0x7FFF ∨ (0xA000 ≤ addr.toNat ∧ addr.toNat ≤ 0xBFFF) → s.write8 addr v = .next s) ∧
    (addr.toNat ≤ 0x7FFF → s.read8 addr = Memory.read .rom s.cart.rom addr.toNat) ∧
    (0xA000 ≤ addr.toNat → addr.toNat ≤ 0xBFFF → s.read8 addr = s.params.unmapped)

/-- On MBC1 a write to 0x2000 to 0x3FFF selects bank max(v mod 32, 1), and the window reads that bank, clamped or
masked (R95, R96, R98, R99). -/
def Obligations.Mbc1BankSelectAndWindow : Prop :=
  ∀ (s : State) (addr : Addr) (v : Byte), s.cart.kind = .mbc1 →
    (0x2000 ≤ addr.toNat → addr.toNat ≤ 0x3FFF →
      (s.store8 addr v).cart.romBank.toNat = max (v.toNat % 32) 1 ∧
      s.store8 addr v = { s with cart := { s.cart with romBank := (s.store8 addr v).cart.romBank } }) ∧
    (0x4000 ≤ addr.toNat → addr.toNat ≤ 0x5FFF → s.store8 addr v = s) ∧
    (addr.toNat ≤ 0x3FFF → s.read8 addr = Memory.read .rom s.cart.rom addr.toNat) ∧
    (0x4000 ≤ addr.toNat → addr.toNat ≤ 0x7FFF → ∀ b : Nat,
      (s.cart.romBank.toNat < s.cart.romBanks → b = s.cart.romBank.toNat) →
      (s.cart.romBanks ≤ s.cart.romBank.toNat → s.params.romBankOor = .saturate → b = s.cart.romBanks - 1) →
      (s.cart.romBanks ≤ s.cart.romBank.toNat → s.params.romBankOor = .mask → b = s.cart.romBank.toNat % s.cart.romBanks) →
      s.read8 addr = Memory.read .rom s.cart.rom ((addr.toNat - 0x4000) + b * 0x4000))

/-- MBC1 cartridge RAM answers only while enabled by a low nibble 0xA, mirrored modulo its size (R94, R100). -/
def Obligations.Mbc1RamNeedsItsEnable : Prop :=
  ∀ (s : State) (addr : Addr) (v : Byte), s.cart.kind = .mbc1 →
    (addr.toNat ≤ 0x1FFF → s.store8 addr v = { s with cart := { s.cart with ramEnable := decide (v.toNat % 16 = 0xA) } }) ∧
    (0xA000 ≤ addr.toNat → addr.toNat ≤ 0xBFFF →
      (s.cart.ramEnable = false ∨ s.cart.ramSize = 0 → s.read8 addr = s.params.unmapped ∧ s.store8 addr v = s) ∧
      (s.cart.ramEnable = true → 0 < s.cart.ramSize → s.memoryWf = true → ∀ a : Addr, 0xA000 ≤ a.toNat → a.toNat ≤ 0xBFFF →
        (s.store8 addr v).read8 a =
          if (a.toNat - 0xA000) % s.cart.ramSize = (addr.toNat - 0xA000) % s.cart.ramSize then v else s.read8 a))

/-! ## The audio unit -/

/-- Power-off clears every status bit and NR10 to NR51 and nothing of the cached state; power-on changes only the
power bit (R345). -/
def Obligations.AudioPowerSwitch : Prop :=
  ∀ (s : State) (v : Byte), s.memoryWf = true →
    (v.getLsbD 7 = false → s.apu.power = true →
      let t := s.store8 0xFF26 v;
      (∀ n, t.apu.chOn n = false) ∧ (∀ k < 0x16, t.apu.reg k = 0) ∧ t.read8 0xFF26 = 0x70 ∧
      (∀ k, 0x20 ≤ k → k < 0x30 → t.apu.reg k = if s.params.waveClearedOnPowerOff then 0 else s.apu.reg k) ∧
      t.apu.fs = s.apu.fs ∧ (∀ n, t.apu.len n = s.apu.len n) ∧ t.apu.env1 = s.apu.env1 ∧ t.apu.env2 = s.apu.env2 ∧
      t.apu.env4 = s.apu.env4 ∧ t.apu.sweep = s.apu.sweep) ∧
    (v.getLsbD 7 = true → s.apu.power = false →
      (s.store8 0xFF26 v).apu.reg 0x16 = 0x80 ∧ (∀ k, k ≠ 0x16 → (s.store8 0xFF26 v).apu.reg k = s.apu.reg k) ∧
      s.store8 0xFF26 v = { s with apu := { s.apu with regs := (s.store8 0xFF26 v).apu.regs } }) ∧
    (v.getLsbD 7 = s.apu.power → s.store8 0xFF26 v = s)

/-- What a write to the audio window does with the unit on and off; FS never changes, the cached envelopes and sweep
only by a trigger (60_exceptions.md R340, R342, R344, R346 to R349, R351, R352). -/
def Obligations.AudioRegisterWritesAreGated : Prop :=
  (∀ (s : State) (k : Nat) (v : Byte), k < 0x30 →
      s.store8 (BitVec.ofNat 16 (0xFF10 + k)) v = { s with apu := s.apu.write s.params k v }) ∧
    (∀ (p : Params) (apu : Apu) (k : Nat) (v : Byte),
      (apu.write p k v).fs = apu.fs ∧
      (¬(apu.power = true ∧ (∃ n, k = controlReg n) ∧ v.getLsbD 7 = true) →
        (apu.write p k v).env1 = apu.env1 ∧ (apu.write p k v).env2 = apu.env2 ∧ (apu.write p k v).env4 = apu.env4 ∧
        (apu.write p k v).sweep = apu.sweep ∧ ∀ n, (apu.write p k v).chOn n = true → apu.chOn n = true) ∧
      (apu.power = false → k < 0x16 →
        (lengthChan k = none → apu.write p k v = apu) ∧
        ∀ n, lengthChan k = some n →
          (apu.write p k v).len n = lengthNumber n v.toNat ∧ (∀ m, m ≠ n → (apu.write p k v).len m = apu.len m) ∧
          (∀ m, (apu.write p k v).chOn m = apu.chOn m) ∧ ∀ j, j ≠ k → (apu.write p k v).reg j = apu.reg j) ∧
      (k = 0x05 ∨ k = 0x0F ∨ (0x17 ≤ k ∧ k < 0x20) → apu.write p k v = apu)) ∧
    ∀ (p : Params) (apu : Apu) (k : Nat) (v : Byte), Memory.wf .apu apu.regs = true →
      let t := apu.write p k v;
      (0x20 ≤ k → t = { apu with regs := t.regs } ∧ apu.RegStored t k v) ∧
      (∀ n, (n, k) ∈ [(Chan.ch1, 0x01), (.ch2, 0x06), (.ch3, 0x0B), (.ch4, 0x10)] →
        t.len n = lengthNumber n v.toNat ∧ (∀ m, m ≠ n → t.len m = apu.len m) ∧ (∀ m, t.chOn m = apu.chOn m) ∧
        (apu.power = true → apu.RegStored t k v) ∧
        (apu.power = false → apu.RegStored t k (if n = .ch1 ∨ n = .ch2 then v &&& 0x3F else v))) ∧
      (apu.power = true →
        (∀ n, (n, k) ∈ [(Chan.ch1, 0x02), (.ch2, 0x07), (.ch3, 0x0A), (.ch4, 0x11)] →
          apu.RegStored t k v ∧ t.chOn n = (apu.chOn n && dacNumber n v.toNat) ∧ (∀ m, m ≠ n → t.chOn m = apu.chOn m) ∧
          ∀ m, t.len m = apu.len m) ∧
        (k = 0x00 →
          apu.RegStored t k v ∧ t = { apu with regs := t.regs, on1 := apu.on1 && !(apu.sweep.negDone && !v.getLsbD 3) }) ∧
        (k ∈ [0x03, 0x08, 0x0C, 0x0D, 0x12, 0x14, 0x15] → t = { apu with regs := t.regs } ∧ apu.RegStored t k v) ∧
        (k ∈ [0x04, 0x09, 0x0E, 0x13] → v.getLsbD 7 = false → t = { apu with regs := t.regs } ∧ apu.RegStored t k v))

/-- A trigger loads the cached state and turns the channel on exactly if its DAC is on; channel 1 not if the sweep
overflows at once (60_exceptions.md R349, R350, R355). -/
def Obligations.TriggerObeysTheDac : Prop :=
  ∀ (p : Params) (apu : Apu) (n : Chan) (v : Byte), Memory.wf .apu apu.regs = true → apu.power = true → v.getLsbD 7 = true →
    let t := apu.write p (controlReg n) v;
    let freq := v.toNat % 8 * 256 + (apu.reg 0x03).toNat;
    let shift := (apu.reg 0x00).toNat % 8;
    let pace := (apu.reg 0x00).toNat / 16 % 8;
    (apu.dacOn n = false → t.chOn n = false) ∧
    (apu.dacOn n = true → n ≠ .ch1 → t.chOn n = true) ∧
    (apu.dacOn n = true → n = .ch1 →
      t.chOn .ch1 = !(decide (shift ≠ 0) && !(apu.reg 0x00).getLsbD 3 && decide (2047 < freq + freq / 2 ^ shift))) ∧
    (∀ m, m ≠ n → t.chOn m = apu.chOn m) ∧
    t.len n =
      (if apu.len n = 0 ∧ v.getLsbD 6 = true ∧ p.lenReloadAlign.getLsbD apu.fs = true then
        lengthNumber n
          (match n with
            | .ch1 => (apu.reg 0x01).toNat
            | .ch2 => (apu.reg 0x06).toNat
            | .ch3 => (apu.reg 0x0B).toNat
            | .ch4 => (apu.reg 0x10).toNat)
      else apu.len n) ∧
    (∀ m, m ≠ n → t.len m = apu.len m) ∧
    (n = .ch1 → t.env1.LoadedFrom (apu.reg 0x02).toNat) ∧ (n ≠ .ch1 → t.env1 = apu.env1) ∧
    (n = .ch2 → t.env2.LoadedFrom (apu.reg 0x07).toNat) ∧ (n ≠ .ch2 → t.env2 = apu.env2) ∧
    (n = .ch4 → t.env4.LoadedFrom (apu.reg 0x11).toNat) ∧ (n ≠ .ch4 → t.env4 = apu.env4) ∧
    (n = .ch1 →
      t.sweep.freq = freq ∧ t.sweep.pace = pace ∧ t.sweep.cnt = (if pace = 0 then 8 else pace) ∧
      t.sweep.en = decide (pace ≠ 0 ∨ shift ≠ 0) ∧ t.sweep.negDone = (decide (shift ≠ 0) && (apu.reg 0x00).getLsbD 3)) ∧
    (n ≠ .ch1 → t.sweep = apu.sweep) ∧
    t.fs = apu.fs ∧ apu.RegStored t (controlReg n) v

/-- Each audio step advances FS modulo 8; lengths count on even phases only, the sweep ticks on 2 and 6 only,
envelopes on phase 7 only (R352, R353, R356). -/
def Obligations.FrameSequencerPhases : Prop :=
  ∀ apu : Apu, Memory.wf .apu apu.regs = true → (∀ n, apu.len n ≤ lenMax n) →
    let phase := (apu.fs + 1) % 8;
    apu.step.fs = phase ∧
    (phase % 2 = 0 → ∀ n,
      apu.step.len n = (if apu.lengthEnabled n then min (apu.len n + 1) (lenMax n) else apu.len n) ∧
      (apu.lengthEnabled n = true → apu.step.len n = lenMax n → apu.step.chOn n = false)) ∧
    (phase % 2 = 1 → ∀ n, apu.step.len n = apu.len n ∧ apu.step.chOn n = apu.chOn n) ∧
    (∃ l : Apu,
      l.fs = phase ∧ l.regs = apu.regs ∧ l.sweep = apu.sweep ∧ l.env1 = apu.env1 ∧ l.env2 = apu.env2 ∧ l.env4 = apu.env4 ∧
      (∀ n, l.len n = if phase % 2 = 0 ∧ apu.lengthEnabled n = true then min (apu.len n + 1) (lenMax n) else apu.len n) ∧
      (∀ n,
        l.chOn n =
          (apu.chOn n && !(decide (phase % 2 = 0) && apu.lengthEnabled n && decide (l.len n = lenMax n)))) ∧
      (phase = 2 ∨ phase = 6 → apu.step = l.sweepTick) ∧
      (phase ≠ 2 → phase ≠ 6 → phase ≠ 7 → apu.step = l) ∧
      (phase = 7 → apu.step = { l with env1 := apu.step.env1, env2 := apu.step.env2, env4 := apu.step.env4 })) ∧
    (phase ≠ 2 → phase ≠ 6 → apu.step.sweep = apu.sweep ∧ apu.step.regs = apu.regs) ∧
    (phase ≠ 7 → apu.step.env1 = apu.env1 ∧ apu.step.env2 = apu.env2 ∧ apu.step.env4 = apu.env4) ∧
    (phase = 7 →
      Envelope.TicksTo apu.on1 apu.env1 apu.step.env1 ∧ Envelope.TicksTo apu.on2 apu.env2 apu.step.env2 ∧
        Envelope.TicksTo apu.on4 apu.env4 apu.step.env4)

/-- A due sweep step adds or subtracts the shifted frequency by the live NR10; overflow turns channel 1 off; live pace
0 does nothing (R354, R355). -/
def Obligations.SweepTickFollowsTheLiveRegister : Prop :=
  ∀ apu : Apu, Memory.wf .apu apu.regs = true →
    let pace := (apu.reg 0x00).toNat / 16 % 8;
    let shift := (apu.reg 0x00).toNat % 8;
    let down := (apu.reg 0x00).getLsbD 3;
    let new := if down then apu.sweep.freq - apu.sweep.freq / 2 ^ shift else apu.sweep.freq + apu.sweep.freq / 2 ^ shift;
    (¬(apu.sweep.en = true ∧ apu.on1 = true) → apu.sweepTick = apu) ∧
    (apu.sweep.en = true → apu.on1 = true → 1 < apu.sweep.cnt →
      apu.sweepTick = { apu with sweep := { apu.sweep with cnt := apu.sweep.cnt - 1 } }) ∧
    (apu.sweep.en = true → apu.on1 = true → apu.sweep.cnt ≤ 1 → pace = 0 →
      apu.sweepTick = { apu with sweep := { apu.sweep with cnt := 8 } }) ∧
    (apu.sweep.en = true → apu.on1 = true → apu.sweep.cnt ≤ 1 → pace ≠ 0 →
      apu.sweepTick = { apu with on1 := apu.sweepTick.on1, sweep := apu.sweepTick.sweep, regs := apu.sweepTick.regs } ∧
      apu.sweepTick.sweep.pace = pace ∧ apu.sweepTick.sweep.cnt = pace ∧ apu.sweepTick.sweep.en = true ∧
      apu.sweepTick.sweep.negDone = (apu.sweep.negDone || down) ∧
      (down = false → 2047 < new →
        apu.sweepTick.on1 = false ∧ apu.sweepTick.sweep.freq = apu.sweep.freq ∧ apu.sweepTick.regs = apu.regs) ∧
      (down = true ∨ new ≤ 2047 → apu.sweepTick.on1 = true ∧
        (shift = 0 → apu.sweepTick.sweep.freq = apu.sweep.freq ∧ apu.sweepTick.regs = apu.regs) ∧
        (shift ≠ 0 → apu.sweepTick.sweep.freq = new ∧ (apu.sweepTick.reg 0x03).toNat = new % 256 ∧
          (apu.sweepTick.reg 0x04).toNat = (apu.reg 0x04).toNat / 8 * 8 + new / 256 % 8 ∧
          ∀ k, k ≠ 0x03 → k ≠ 0x04 → apu.sweepTick.reg k = apu.reg k)))

/-- After a CPU step exactly the audio steps that are due are made, one for each period up to the cycle counter
(R358). -/
def Obligations.AudioStepsKeepTheirCadence : Prop :=
  ∀ s : State, 0 < s.params.apuStepPeriod →
    ∃ k : Nat,
      s.apuCatchUp =
        { s with apu := Nat.iterate Apu.step k s.apu, apuNext := s.apuNext + k * s.params.apuStepPeriod } ∧
      s.cycles < s.apuNext + k * s.params.apuStepPeriod ∧
      (k ≠ 0 → s.apuNext + (k - 1) * s.params.apuStepPeriod ≤ s.cycles)

/-! ## Reset and the host -/

/-- After reset the CPU, the interrupt and I/O bytes and the audio unit hold the values of R39, R40 and R41, and reads
give them (10_state.md R39, R40, R41, 60_exceptions.md R341, R343, 20_memory.md R72). -/
def Obligations.ResetLeavesTheSpecsValues : Prop :=
  let s := State.reset;
    s.a = 0x01 ∧ s.f = 0xB0 ∧ s.b = 0x00 ∧ s.c = 0x13 ∧ s.d = 0x00 ∧ s.e = 0xD8 ∧ s.h = 0x01 ∧ s.l = 0x4D ∧ s.sp = 0xFFFE ∧
    s.pc = 0x0100 ∧ s.execState = .normal ∧ s.cycles = 0 ∧ s.ime = false ∧ s.eiPending = false ∧
    s.read8 0xFF00 = 0xCF ∧ s.read8 0xFF0F = 0xE0 ∧ s.read8 0xFFFF = 0x00 ∧ s.read8 0xFF40 = 0x91 ∧ s.read8 0xFF47 = 0xFC ∧
    s.read8 0xFF48 = 0xFF ∧ s.read8 0xFF49 = 0xFF ∧
    (∀ k ∈ List.range 0x80, k ∉ [0x00, 0x0F, 0x40, 0x47, 0x48, 0x49] → ¬(0x10 ≤ k ∧ k < 0x40) →
      s.read8 (BitVec.ofNat 16 (0xFF00 + k)) = 0x00) ∧
    (List.range 0x17).map s.apu.reg =
      [0x80, 0xBF, 0xF3, 0x00, 0xBF, 0x00, 0x3F, 0x00, 0x00, 0xBF, 0x7F, 0xFF, 0x9F, 0x00, 0xBF, 0x00, 0xFF, 0x00, 0x00, 0xBF,
        0x77, 0xF3, 0x80] ∧
    (List.range 0x09).map (fun k => s.apu.reg (0x17 + k)) = [0, 0, 0, 0, 0, 0, 0, 0, 0] ∧
    (List.range 0x17).map (fun k => s.read8 (BitVec.ofNat 16 (0xFF10 + k))) =
      [0x80, 0xBF, 0xF3, 0xFF, 0xBF, 0xFF, 0x3F, 0x00, 0xFF, 0xBF, 0x7F, 0xFF, 0x9F, 0xFF, 0xBF, 0xFF, 0xFF, 0x00, 0x00, 0xBF,
        0x77, 0xF3, 0xF1] ∧
    s.apu.fs = 0 ∧ s.apu.on1 = true ∧ s.apu.on2 = false ∧ s.apu.on3 = false ∧ s.apu.on4 = false ∧
    s.apu.len1 = 0 ∧ s.apu.len2 = 0 ∧ s.apu.len3 = 0 ∧ s.apu.len4 = 0 ∧
    s.apu.env1 = ⟨0, 0, false, 0⟩ ∧ s.apu.env2 = ⟨0, 0, false, 0⟩ ∧ s.apu.env4 = ⟨0, 0, false, 0⟩ ∧
    s.apu.sweep = ⟨0, 0, false, 0, false⟩ ∧ s.apuNext = 8192 ∧ s.params.apuStepPeriod = 8192

/-- reset() gives the CPU, I/O, audio and mapper registers their reset values, twice is once, and no storage is
touched (R400, R401). -/
def Obligations.HostResetIsIdempotentAndKeepsStorage : Prop :=
  ∀ s : State,
    s.hostReset.hostReset = s.hostReset ∧
    (∀ r, s.hostReset.reg8 r = State.reset.reg8 r) ∧ s.hostReset.f = 0xB0 ∧ s.hostReset.sp = 0xFFFE ∧ s.hostReset.pc = 0x0100 ∧
    s.hostReset.execState = .normal ∧ s.hostReset.cycles = 0 ∧ s.hostReset.ime = false ∧ s.hostReset.eiPending = false ∧
    s.hostReset.haltBug = false ∧ s.hostReset.ie = 0 ∧ s.hostReset.iflags = 0 ∧ s.hostReset.p1 = 0x0F ∧
    s.hostReset.io = State.reset.io ∧ s.hostReset.apuNext = s.params.apuStepPeriod ∧ s.hostReset.apu.fs = s.params.fsReset.val ∧
    (∀ k < 0x20, s.hostReset.apu.reg k = State.reset.apu.reg k) ∧
    (∀ n, s.hostReset.apu.chOn n = decide (n = .ch1) ∧ s.hostReset.apu.len n = 0) ∧
    s.hostReset.apu.env1 = ⟨0, 0, false, 0⟩ ∧ s.hostReset.apu.env2 = ⟨0, 0, false, 0⟩ ∧ s.hostReset.apu.env4 = ⟨0, 0, false, 0⟩ ∧
    s.hostReset.apu.sweep = ⟨0, 0, false, 0, false⟩ ∧
    (s.cart.kind = .mbc1 →
      s.hostReset.cart = { s.cart with mode := .mode16x8, ramEnable := false, romBank := 1 }) ∧
    (s.cart.kind = .romOnly → s.hostReset.cart = s.cart) ∧
    s.hostReset.vram = s.vram ∧ s.hostReset.wram = s.wram ∧ s.hostReset.oam = s.oam ∧ s.hostReset.hram = s.hram ∧
    (∀ k, 0x20 ≤ k → s.hostReset.apu.reg k = s.apu.reg k) ∧ s.hostReset.params = s.params ∧
    ∀ (image : List Byte) (ram : RamInit) (p : Params) (t : State), powerOn image ram p = .next t →
      t.hostReset = t ∧ t.params = p ∧ t.vram = ram.vram ∧ t.wram = ram.wram ∧ t.oam = ram.oam ∧ t.hram = ram.hram ∧
      ∀ k, 0x20 ≤ k → t.apu.reg k = Memory.read .apu ram.wave k

/-- A press pulls its line low and requests the joypad interrupt, a release raises the line; a request sets its bit; a
device writes its byte (R312, R313, R103). -/
def Obligations.ButtonsAndRequestsSetTheirBits : Prop :=
  ∀ s : State,
    (∀ x : Button, s.params.buttonMap = ButtonMap.default →
      let line : Nat :=
        (match x with
          | .right | .a => 0
          | .left | .b => 1
          | .up | .select => 2
          | .down | .start => 3);
      (∀ k < 6, (s.press x).p1.getLsbD k = (s.p1.getLsbD k && decide (k ≠ line))) ∧
      (∀ k < 5, (s.press x).iflags.getLsbD k = (s.iflags.getLsbD k || decide (k = 4))) ∧
      s.press x = { s with p1 := (s.press x).p1, iflags := (s.press x).iflags } ∧
      (∀ k < 6, (s.release x).p1.getLsbD k = (s.p1.getLsbD k || decide (k = line))) ∧
      s.release x = { s with p1 := (s.release x).p1 }) ∧
    (∀ i : Fin 5, (∀ k < 5, (s.requestInterrupt i).iflags.getLsbD k = (s.iflags.getLsbD k || decide (k = i.val))) ∧
      s.requestInterrupt i = { s with iflags := (s.requestInterrupt i).iflags }) ∧
    ∀ (addr : Addr) (v : Byte), 0xFF01 ≤ addr.toNat → addr.toNat ≤ 0xFF7F → ¬(0xFF0F ≤ addr.toNat ∧ addr.toNat ≤ 0xFF3F) →
      (s.memoryWf = true → (s.externalIoWrite addr v).read8 addr = v) ∧
      s.externalIoWrite addr v = { s with io := (s.externalIoWrite addr v).io }

/-! ## The whole machine -/

/-- The invariant of R44 holds in the state after reset (10_state.md R44, 60_exceptions.md R342). -/
def Obligations.InvariantHoldsAtReset : Prop :=
  State.reset.Inv

/-- From every state that meets the invariant, every step that completes ends in a state that meets it (10_state.md
R44, 60_exceptions.md R342, R357, R358, 20_memory.md R97). -/
def Obligations.EveryStepKeepsTheInvariant : Prop :=
  ∀ s t : State, s.Inv → step s = .next t → t.Inv

/-- Every state reached from a power-on with any image that loads, any RAM contents and any host moves meets the
invariant (10_state.md R44, 20_memory.md R90, 70_reset_and_hazards.md R401, R410). -/
def Obligations.ReachableStatesMeetTheInvariant : Prop :=
  ∀ s : State, Reachable s → s.Inv

/-- No step changes the parameters, the image or what is derived from it; without a reset every step adds at least 4
cycles (10_state.md R27, R37, R44 (g), 70_reset_and_hazards.md R405). -/
def Obligations.StepsKeepImageAndParametersAndCountUp : Prop :=
  ∀ s t : State, step s = .next t →
    t.params = s.params ∧ t.cart.rom = s.cart.rom ∧ t.cart.kind = s.cart.kind ∧ t.cart.romBanks = s.cart.romBanks ∧
    t.cart.ramSize = s.cart.ramSize ∧
    ((∀ moves ∈ s.schedule.head?, HostMove.reset ∉ moves) → s.cycles + 4 ≤ t.cycles)

/-- Among all instructions only DI and RETI change IME, only DI and EI change EI_PENDING, only HALT and STOP change
STATE (60_exceptions.md R303, R323, 46_system.md R291 to R294, 10_state.md R28, R29). -/
def Obligations.OnlyNamedInstructionsChangeControlState : Prop :=
  ∀ (i : Instr) (s t : State), exec i s = .next t →
    (i ≠ .di → i ≠ .reti → t.ime = s.ime) ∧ (i ≠ .di → i ≠ .ei → t.eiPending = s.eiPending) ∧
    (i ≠ .halt → (∀ x, i ≠ .stop x) → t.execState = s.execState) ∧ t.apuNext = s.apuNext ∧ t.schedule = s.schedule
end

