-- ==== Sys2Proof/Laws/Memory.lean ====
section
/-! SUPPORT. The laws of one store: reading after writing, that every operation keeps the canonical form, and that canonical contents with
equal readings are equal lists. -/

namespace Sys2Proof.Machine

/-! ## Looking up -/

theorem Memory.lookup_insertCell (m : Memory) (k j : Nat) (v : Byte) :
    Memory.lookup (Memory.insertCell m k v) j = if j = k then some v else Memory.lookup m j := by
  induction m with
  | nil => simp [insertCell, lookup, eq_comm]
  | cons cell rest ih =>
    obtain ⟨k', v'⟩ := cell
    simp only [insertCell]
    by_cases hlt : k < k'
    · simp only [hlt, if_true, lookup]
      by_cases hj : j = k
      · simp [hj]
      · simp [hj, Ne.symm hj]
    · by_cases heq : k = k'
      · subst heq
        simp only [lt_irrefl, if_false, if_true, lookup]
        by_cases hj : j = k
        · simp [hj]
        · simp [hj, Ne.symm hj]
      · simp only [hlt, heq, if_false, lookup, ih]
        by_cases hj : j = k
        · simp [hj, Ne.symm heq]
        · simp [hj]

/-- Every listed offset is at least the bound of `wfFrom`. -/
theorem Memory.lookup_none_of_wfFrom {id : StoreId} {lo : Nat} {m : Memory} {j : Nat} (h : Memory.wfFrom id lo m = true)
    (hj : j < lo) : Memory.lookup m j = none := by
  induction m generalizing lo with
  | nil => rfl
  | cons cell rest ih =>
    obtain ⟨k, v⟩ := cell
    simp only [wfFrom, Bool.and_eq_true, decide_eq_true_eq] at h
    obtain ⟨⟨⟨hlo, -⟩, -⟩, hrest⟩ := h
    have hne : k ≠ j := by omega
    simp only [lookup, hne, if_false]
    exact ih hrest (by omega)

/-- A lower bound of `wfFrom` may be lowered. -/
theorem Memory.wfFrom_mono {id : StoreId} {lo lo' : Nat} {m : Memory} (h : Memory.wfFrom id lo m = true) (hle : lo' ≤ lo) :
    Memory.wfFrom id lo' m = true := by
  cases m with
  | nil => rfl
  | cons cell rest =>
    obtain ⟨k, v⟩ := cell
    simp only [wfFrom, Bool.and_eq_true, decide_eq_true_eq] at h ⊢
    exact ⟨⟨⟨by omega, h.1.1.2⟩, h.1.2⟩, h.2⟩

theorem Memory.lookup_eraseCell {id : StoreId} {lo : Nat} {m : Memory} (h : Memory.wfFrom id lo m = true) (k j : Nat) :
    Memory.lookup (Memory.eraseCell m k) j = if j = k then none else Memory.lookup m j := by
  induction m generalizing lo with
  | nil => simp [eraseCell, lookup]
  | cons cell rest ih =>
    obtain ⟨k', v'⟩ := cell
    simp only [wfFrom, Bool.and_eq_true, decide_eq_true_eq] at h
    obtain ⟨⟨⟨-, -⟩, -⟩, hrest⟩ := h
    simp only [eraseCell]
    by_cases hk : k' = k
    · subst hk
      simp only [if_true, lookup]
      by_cases hj : j = k'
      · subst hj
        simp [lookup_none_of_wfFrom hrest (Nat.lt_succ_self j)]
      · simp [hj, Ne.symm hj]
    · simp only [hk, if_false, lookup, ih hrest]
      by_cases hj : j = k
      · subst hj
        simp [hk]
      · simp [hj]

/-! ## Reading after writing -/

/-- The cell written reads as what was written, and every other cell as before. -/
theorem Memory.read_write {id : StoreId} {m : Memory} (h : Memory.wf id m = true) (k j : Nat) (v : Byte) :
    Memory.read id (Memory.write id m k v) j = if j = k then v else Memory.read id m j := by
  simp only [read, write]
  by_cases hv : v = unlisted id k
  · simp only [hv, if_true, lookup_eraseCell h]
    by_cases hj : j = k
    · simp [hj]
    · simp [hj]
  · simp only [hv, if_false, lookup_insertCell]
    by_cases hj : j = k
    · simp [hj]
    · simp [hj]

theorem Memory.read_write_same {id : StoreId} {m : Memory} (h : Memory.wf id m = true) (k : Nat) (v : Byte) :
    Memory.read id (Memory.write id m k v) k = v := by
  simp [read_write h]

/-- Other cells read as before, whatever form the contents have. -/
theorem Memory.read_write_other (id : StoreId) (m : Memory) {k j : Nat} (v : Byte) (hj : j ≠ k) :
    Memory.read id (Memory.write id m k v) j = Memory.read id m j := by
  have herase : Memory.lookup (Memory.eraseCell m k) j = Memory.lookup m j := by
    induction m with
    | nil => rfl
    | cons cell rest ih =>
      obtain ⟨k', v'⟩ := cell
      simp only [eraseCell]
      by_cases hk : k' = k
      · subst hk
        simp [lookup, Ne.symm hj]
      · simp [hk, lookup, ih]
  simp only [read, write]
  split
  · rw [herase]
  · rw [lookup_insertCell, if_neg hj]

/-! ## The canonical form -/

theorem Memory.wfFrom_insertCell {id : StoreId} {lo : Nat} {m : Memory} {k : Nat} {v : Byte} (h : Memory.wfFrom id lo m = true)
    (hlo : lo ≤ k) (hk : k < storeSize id) (hv : v ≠ unlisted id k) : Memory.wfFrom id lo (Memory.insertCell m k v) = true := by
  induction m generalizing lo with
  | nil => simp [insertCell, wfFrom, hlo, hk, hv]
  | cons cell rest ih =>
    obtain ⟨k', v'⟩ := cell
    simp only [wfFrom, Bool.and_eq_true, decide_eq_true_eq] at h
    obtain ⟨⟨⟨hlo', hk'⟩, hv'⟩, hrest⟩ := h
    simp only [insertCell]
    split
    · simp only [wfFrom, Bool.and_eq_true, decide_eq_true_eq]
      exact ⟨⟨⟨hlo, hk⟩, hv⟩, ⟨⟨by omega, hk'⟩, hv'⟩, hrest⟩
    · split
      · subst_vars
        simp only [wfFrom, Bool.and_eq_true, decide_eq_true_eq]
        exact ⟨⟨⟨hlo, hk⟩, hv⟩, hrest⟩
      · simp only [wfFrom, Bool.and_eq_true, decide_eq_true_eq]
        exact ⟨⟨⟨hlo', hk'⟩, hv'⟩, ih hrest (by omega)⟩

theorem Memory.wfFrom_eraseCell {id : StoreId} {lo : Nat} {m : Memory} (k : Nat) (h : Memory.wfFrom id lo m = true) :
    Memory.wfFrom id lo (Memory.eraseCell m k) = true := by
  induction m generalizing lo with
  | nil => rfl
  | cons cell rest ih =>
    obtain ⟨k', v'⟩ := cell
    simp only [wfFrom, Bool.and_eq_true, decide_eq_true_eq] at h
    obtain ⟨⟨⟨hlo', hk'⟩, hv'⟩, hrest⟩ := h
    simp only [eraseCell]
    split
    · exact wfFrom_mono hrest (by omega)
    · simp only [wfFrom, Bool.and_eq_true, decide_eq_true_eq]
      exact ⟨⟨⟨hlo', hk'⟩, hv'⟩, ih hrest⟩

/-- A write inside the store keeps the canonical form. -/
theorem Memory.wf_write {id : StoreId} {m : Memory} {k : Nat} (v : Byte) (h : Memory.wf id m = true) (hk : k < storeSize id) :
    Memory.wf id (Memory.write id m k v) = true := by
  unfold write
  split
  · exact wfFrom_eraseCell k h
  · exact wfFrom_insertCell h (Nat.zero_le k) hk (by assumption)

theorem Memory.wfFrom_filter {id : StoreId} {lo : Nat} {m : Memory} (f : Host.Cell → Bool) (h : Memory.wfFrom id lo m = true) :
    Memory.wfFrom id lo (m.filter f) = true := by
  induction m generalizing lo with
  | nil => rfl
  | cons cell rest ih =>
    obtain ⟨k, v⟩ := cell
    simp only [wfFrom, Bool.and_eq_true, decide_eq_true_eq] at h
    obtain ⟨⟨⟨hlo, hk⟩, hv⟩, hrest⟩ := h
    rw [List.filter_cons]
    split
    · simp only [wfFrom, Bool.and_eq_true, decide_eq_true_eq]
      exact ⟨⟨⟨hlo, hk⟩, hv⟩, ih hrest⟩
    · exact ih (wfFrom_mono hrest (by omega))

/-- Leaving cells out keeps the canonical form. -/
theorem Memory.wf_filter {id : StoreId} {m : Memory} (f : Host.Cell → Bool) (h : Memory.wf id m = true) :
    Memory.wf id (m.filter f) = true :=
  wfFrom_filter f h

theorem Memory.wfFrom_ofBytes (id : StoreId) (k : Nat) (bytes : List Byte) (h : k + bytes.length ≤ storeSize id) :
    Memory.wfFrom id k (Memory.ofBytes id k bytes) = true := by
  induction bytes generalizing k with
  | nil => rfl
  | cons v rest ih =>
    simp only [List.length_cons] at h
    simp only [ofBytes]
    split
    · exact wfFrom_mono (ih (k + 1) (by omega)) (by omega)
    · simp only [wfFrom, Bool.and_eq_true, decide_eq_true_eq]
      exact ⟨⟨⟨le_refl k, by omega⟩, by assumption⟩, ih (k + 1) (by omega)⟩

/-- Listing bytes that fit gives the canonical form. -/
theorem Memory.wf_ofBytes (id : StoreId) (k : Nat) (bytes : List Byte) (h : k + bytes.length ≤ storeSize id) :
    Memory.wf id (Memory.ofBytes id k bytes) = true :=
  wfFrom_mono (wfFrom_ofBytes id k bytes h) (Nat.zero_le k)

/-! ## Equal readings, equal contents -/

theorem Memory.ext_wfFrom {id : StoreId} {lo lo' : Nat} {m m' : Memory} (h : Memory.wfFrom id lo m = true)
    (h' : Memory.wfFrom id lo' m' = true) (heq : ∀ k, Memory.read id m k = Memory.read id m' k) : m = m' := by
  induction m generalizing m' lo lo' with
  | nil =>
    cases m' with
    | nil => rfl
    | cons cell rest =>
      obtain ⟨k, v⟩ := cell
      simp only [wfFrom, Bool.and_eq_true, decide_eq_true_eq] at h'
      have := heq k
      simp [read, lookup] at this
      exact absurd this.symm h'.1.2
  | cons cell rest ih =>
    obtain ⟨k, v⟩ := cell
    simp only [wfFrom, Bool.and_eq_true, decide_eq_true_eq] at h
    cases m' with
    | nil =>
      have := heq k
      simp [read, lookup] at this
      exact absurd this h.1.2
    | cons cell' rest' =>
      obtain ⟨k', v'⟩ := cell'
      simp only [wfFrom, Bool.and_eq_true, decide_eq_true_eq] at h'
      have hkk : k = k' := by
        by_contra hne
        rcases Nat.lt_or_gt_of_ne hne with hlt | hgt
        · have := heq k
          have hn : Memory.lookup rest' k = none := lookup_none_of_wfFrom h'.2 (by omega)
          simp [read, lookup, Ne.symm hne, hn] at this
          exact h.1.2 this
        · have := heq k'
          have hn : Memory.lookup rest k' = none := lookup_none_of_wfFrom h.2 (by omega)
          simp [read, lookup, hne, hn] at this
          exact h'.1.2 this.symm
      subst hkk
      have hvv : v = v' := by
        have := heq k
        simpa [read, lookup] using this
      subst hvv
      have hrest : rest = rest' := by
        refine ih h.2 h'.2 fun j => ?_
        by_cases hj : j = k
        · subst hj
          simp [read, lookup_none_of_wfFrom h.2 (Nat.lt_succ_self j), lookup_none_of_wfFrom h'.2 (Nat.lt_succ_self j)]
        · have := heq j
          simpa [read, lookup, Ne.symm hj] using this
      rw [hrest]

/-- Two canonical contents of a store that read the same at every offset are the same list. -/
theorem Memory.ext_of_wf {id : StoreId} {m m' : Memory} (h : Memory.wf id m = true) (h' : Memory.wf id m' = true)
    (heq : ∀ k, Memory.read id m k = Memory.read id m' k) : m = m' :=
  ext_wfFrom h h' heq

end Sys2Proof.Machine
end

