-- ==== Sys2Proof/Laws/State.lean ====
section
/-! SUPPORT. One lemma for each field of State under each named update: the fields an update leaves alone, and the fields it writes.
All hold by unfolding the update once, so that no later proof does. -/

namespace Sys2Proof.Machine

/-! ### `tick` -/

@[simp] theorem State.tick_a (s : State) (n : Nat) : (s.tick n).a = s.a := rfl
@[simp] theorem State.tick_f (s : State) (n : Nat) : (s.tick n).f = s.f := rfl
@[simp] theorem State.tick_b (s : State) (n : Nat) : (s.tick n).b = s.b := rfl
@[simp] theorem State.tick_c (s : State) (n : Nat) : (s.tick n).c = s.c := rfl
@[simp] theorem State.tick_d (s : State) (n : Nat) : (s.tick n).d = s.d := rfl
@[simp] theorem State.tick_e (s : State) (n : Nat) : (s.tick n).e = s.e := rfl
@[simp] theorem State.tick_h (s : State) (n : Nat) : (s.tick n).h = s.h := rfl
@[simp] theorem State.tick_l (s : State) (n : Nat) : (s.tick n).l = s.l := rfl
@[simp] theorem State.tick_sp (s : State) (n : Nat) : (s.tick n).sp = s.sp := rfl
@[simp] theorem State.tick_pc (s : State) (n : Nat) : (s.tick n).pc = s.pc := rfl
@[simp] theorem State.tick_execState (s : State) (n : Nat) : (s.tick n).execState = s.execState := rfl
@[simp] theorem State.tick_cycles (s : State) (n : Nat) : (s.tick n).cycles = s.cycles + n := rfl
@[simp] theorem State.tick_ime (s : State) (n : Nat) : (s.tick n).ime = s.ime := rfl
@[simp] theorem State.tick_eiPending (s : State) (n : Nat) : (s.tick n).eiPending = s.eiPending := rfl
@[simp] theorem State.tick_haltBug (s : State) (n : Nat) : (s.tick n).haltBug = s.haltBug := rfl
@[simp] theorem State.tick_ie (s : State) (n : Nat) : (s.tick n).ie = s.ie := rfl
@[simp] theorem State.tick_iflags (s : State) (n : Nat) : (s.tick n).iflags = s.iflags := rfl
@[simp] theorem State.tick_p1 (s : State) (n : Nat) : (s.tick n).p1 = s.p1 := rfl
@[simp] theorem State.tick_vram (s : State) (n : Nat) : (s.tick n).vram = s.vram := rfl
@[simp] theorem State.tick_wram (s : State) (n : Nat) : (s.tick n).wram = s.wram := rfl
@[simp] theorem State.tick_oam (s : State) (n : Nat) : (s.tick n).oam = s.oam := rfl
@[simp] theorem State.tick_hram (s : State) (n : Nat) : (s.tick n).hram = s.hram := rfl
@[simp] theorem State.tick_io (s : State) (n : Nat) : (s.tick n).io = s.io := rfl
@[simp] theorem State.tick_cart (s : State) (n : Nat) : (s.tick n).cart = s.cart := rfl
@[simp] theorem State.tick_apu (s : State) (n : Nat) : (s.tick n).apu = s.apu := rfl
@[simp] theorem State.tick_apuNext (s : State) (n : Nat) : (s.tick n).apuNext = s.apuNext := rfl
@[simp] theorem State.tick_params (s : State) (n : Nat) : (s.tick n).params = s.params := rfl
@[simp] theorem State.tick_schedule (s : State) (n : Nat) : (s.tick n).schedule = s.schedule := rfl
@[simp] theorem State.tick_read8 (s : State) (n : Nat) (addr : Addr) : (s.tick n).read8 addr = s.read8 addr := rfl

/-! ### `fetched` -/

@[simp] theorem State.fetched_a (s : State) (n : Addr) : (s.fetched n).a = s.a := rfl
@[simp] theorem State.fetched_f (s : State) (n : Addr) : (s.fetched n).f = s.f := rfl
@[simp] theorem State.fetched_b (s : State) (n : Addr) : (s.fetched n).b = s.b := rfl
@[simp] theorem State.fetched_c (s : State) (n : Addr) : (s.fetched n).c = s.c := rfl
@[simp] theorem State.fetched_d (s : State) (n : Addr) : (s.fetched n).d = s.d := rfl
@[simp] theorem State.fetched_e (s : State) (n : Addr) : (s.fetched n).e = s.e := rfl
@[simp] theorem State.fetched_h (s : State) (n : Addr) : (s.fetched n).h = s.h := rfl
@[simp] theorem State.fetched_l (s : State) (n : Addr) : (s.fetched n).l = s.l := rfl
@[simp] theorem State.fetched_sp (s : State) (n : Addr) : (s.fetched n).sp = s.sp := rfl
@[simp] theorem State.fetched_pc (s : State) (n : Addr) : (s.fetched n).pc = s.pcAfter n := rfl
@[simp] theorem State.fetched_execState (s : State) (n : Addr) : (s.fetched n).execState = s.execState := rfl
@[simp] theorem State.fetched_cycles (s : State) (n : Addr) : (s.fetched n).cycles = s.cycles := rfl
@[simp] theorem State.fetched_ime (s : State) (n : Addr) : (s.fetched n).ime = s.ime := rfl
@[simp] theorem State.fetched_eiPending (s : State) (n : Addr) : (s.fetched n).eiPending = s.eiPending := rfl
@[simp] theorem State.fetched_haltBug (s : State) (n : Addr) : (s.fetched n).haltBug = false := rfl
@[simp] theorem State.fetched_ie (s : State) (n : Addr) : (s.fetched n).ie = s.ie := rfl
@[simp] theorem State.fetched_iflags (s : State) (n : Addr) : (s.fetched n).iflags = s.iflags := rfl
@[simp] theorem State.fetched_p1 (s : State) (n : Addr) : (s.fetched n).p1 = s.p1 := rfl
@[simp] theorem State.fetched_vram (s : State) (n : Addr) : (s.fetched n).vram = s.vram := rfl
@[simp] theorem State.fetched_wram (s : State) (n : Addr) : (s.fetched n).wram = s.wram := rfl
@[simp] theorem State.fetched_oam (s : State) (n : Addr) : (s.fetched n).oam = s.oam := rfl
@[simp] theorem State.fetched_hram (s : State) (n : Addr) : (s.fetched n).hram = s.hram := rfl
@[simp] theorem State.fetched_io (s : State) (n : Addr) : (s.fetched n).io = s.io := rfl
@[simp] theorem State.fetched_cart (s : State) (n : Addr) : (s.fetched n).cart = s.cart := rfl
@[simp] theorem State.fetched_apu (s : State) (n : Addr) : (s.fetched n).apu = s.apu := rfl
@[simp] theorem State.fetched_apuNext (s : State) (n : Addr) : (s.fetched n).apuNext = s.apuNext := rfl
@[simp] theorem State.fetched_params (s : State) (n : Addr) : (s.fetched n).params = s.params := rfl
@[simp] theorem State.fetched_schedule (s : State) (n : Addr) : (s.fetched n).schedule = s.schedule := rfl
@[simp] theorem State.fetched_read8 (s : State) (n : Addr) (addr : Addr) : (s.fetched n).read8 addr = s.read8 addr := rfl

/-! ### `popped` -/

@[simp] theorem State.popped_a (s : State) : (s.popped).a = s.a := rfl
@[simp] theorem State.popped_f (s : State) : (s.popped).f = s.f := rfl
@[simp] theorem State.popped_b (s : State) : (s.popped).b = s.b := rfl
@[simp] theorem State.popped_c (s : State) : (s.popped).c = s.c := rfl
@[simp] theorem State.popped_d (s : State) : (s.popped).d = s.d := rfl
@[simp] theorem State.popped_e (s : State) : (s.popped).e = s.e := rfl
@[simp] theorem State.popped_h (s : State) : (s.popped).h = s.h := rfl
@[simp] theorem State.popped_l (s : State) : (s.popped).l = s.l := rfl
@[simp] theorem State.popped_sp (s : State) : (s.popped).sp = s.sp + 2 := rfl
@[simp] theorem State.popped_pc (s : State) : (s.popped).pc = s.pc := rfl
@[simp] theorem State.popped_execState (s : State) : (s.popped).execState = s.execState := rfl
@[simp] theorem State.popped_cycles (s : State) : (s.popped).cycles = s.cycles := rfl
@[simp] theorem State.popped_ime (s : State) : (s.popped).ime = s.ime := rfl
@[simp] theorem State.popped_eiPending (s : State) : (s.popped).eiPending = s.eiPending := rfl
@[simp] theorem State.popped_haltBug (s : State) : (s.popped).haltBug = s.haltBug := rfl
@[simp] theorem State.popped_ie (s : State) : (s.popped).ie = s.ie := rfl
@[simp] theorem State.popped_iflags (s : State) : (s.popped).iflags = s.iflags := rfl
@[simp] theorem State.popped_p1 (s : State) : (s.popped).p1 = s.p1 := rfl
@[simp] theorem State.popped_vram (s : State) : (s.popped).vram = s.vram := rfl
@[simp] theorem State.popped_wram (s : State) : (s.popped).wram = s.wram := rfl
@[simp] theorem State.popped_oam (s : State) : (s.popped).oam = s.oam := rfl
@[simp] theorem State.popped_hram (s : State) : (s.popped).hram = s.hram := rfl
@[simp] theorem State.popped_io (s : State) : (s.popped).io = s.io := rfl
@[simp] theorem State.popped_cart (s : State) : (s.popped).cart = s.cart := rfl
@[simp] theorem State.popped_apu (s : State) : (s.popped).apu = s.apu := rfl
@[simp] theorem State.popped_apuNext (s : State) : (s.popped).apuNext = s.apuNext := rfl
@[simp] theorem State.popped_params (s : State) : (s.popped).params = s.params := rfl
@[simp] theorem State.popped_schedule (s : State) : (s.popped).schedule = s.schedule := rfl
@[simp] theorem State.popped_read8 (s : State) (addr : Addr) : (s.popped).read8 addr = s.read8 addr := rfl

/-! ### `setFlags` -/

@[simp] theorem State.setFlags_a (s : State) (z n h c : Bool) : (s.setFlags z n h c).a = s.a := rfl
@[simp] theorem State.setFlags_f (s : State) (z n h c : Bool) : (s.setFlags z n h c).f = flagByte z n h c := rfl
@[simp] theorem State.setFlags_b (s : State) (z n h c : Bool) : (s.setFlags z n h c).b = s.b := rfl
@[simp] theorem State.setFlags_c (s : State) (z n h c : Bool) : (s.setFlags z n h c).c = s.c := rfl
@[simp] theorem State.setFlags_d (s : State) (z n h c : Bool) : (s.setFlags z n h c).d = s.d := rfl
@[simp] theorem State.setFlags_e (s : State) (z n h c : Bool) : (s.setFlags z n h c).e = s.e := rfl
@[simp] theorem State.setFlags_h (s : State) (z n h c : Bool) : (s.setFlags z n h c).h = s.h := rfl
@[simp] theorem State.setFlags_l (s : State) (z n h c : Bool) : (s.setFlags z n h c).l = s.l := rfl
@[simp] theorem State.setFlags_sp (s : State) (z n h c : Bool) : (s.setFlags z n h c).sp = s.sp := rfl
@[simp] theorem State.setFlags_pc (s : State) (z n h c : Bool) : (s.setFlags z n h c).pc = s.pc := rfl
@[simp] theorem State.setFlags_execState (s : State) (z n h c : Bool) : (s.setFlags z n h c).execState = s.execState := rfl
@[simp] theorem State.setFlags_cycles (s : State) (z n h c : Bool) : (s.setFlags z n h c).cycles = s.cycles := rfl
@[simp] theorem State.setFlags_ime (s : State) (z n h c : Bool) : (s.setFlags z n h c).ime = s.ime := rfl
@[simp] theorem State.setFlags_eiPending (s : State) (z n h c : Bool) : (s.setFlags z n h c).eiPending = s.eiPending := rfl
@[simp] theorem State.setFlags_haltBug (s : State) (z n h c : Bool) : (s.setFlags z n h c).haltBug = s.haltBug := rfl
@[simp] theorem State.setFlags_ie (s : State) (z n h c : Bool) : (s.setFlags z n h c).ie = s.ie := rfl
@[simp] theorem State.setFlags_iflags (s : State) (z n h c : Bool) : (s.setFlags z n h c).iflags = s.iflags := rfl
@[simp] theorem State.setFlags_p1 (s : State) (z n h c : Bool) : (s.setFlags z n h c).p1 = s.p1 := rfl
@[simp] theorem State.setFlags_vram (s : State) (z n h c : Bool) : (s.setFlags z n h c).vram = s.vram := rfl
@[simp] theorem State.setFlags_wram (s : State) (z n h c : Bool) : (s.setFlags z n h c).wram = s.wram := rfl
@[simp] theorem State.setFlags_oam (s : State) (z n h c : Bool) : (s.setFlags z n h c).oam = s.oam := rfl
@[simp] theorem State.setFlags_hram (s : State) (z n h c : Bool) : (s.setFlags z n h c).hram = s.hram := rfl
@[simp] theorem State.setFlags_io (s : State) (z n h c : Bool) : (s.setFlags z n h c).io = s.io := rfl
@[simp] theorem State.setFlags_cart (s : State) (z n h c : Bool) : (s.setFlags z n h c).cart = s.cart := rfl
@[simp] theorem State.setFlags_apu (s : State) (z n h c : Bool) : (s.setFlags z n h c).apu = s.apu := rfl
@[simp] theorem State.setFlags_apuNext (s : State) (z n h c : Bool) : (s.setFlags z n h c).apuNext = s.apuNext := rfl
@[simp] theorem State.setFlags_params (s : State) (z n h c : Bool) : (s.setFlags z n h c).params = s.params := rfl
@[simp] theorem State.setFlags_schedule (s : State) (z n h c : Bool) : (s.setFlags z n h c).schedule = s.schedule := rfl
@[simp] theorem State.setFlags_read8 (s : State) (z n h c : Bool) (addr : Addr) : (s.setFlags z n h c).read8 addr = s.read8 addr := rfl

/-! ### `withFlags` -/

@[simp] theorem State.withFlags_a (s : State) (r : Flagged) : (s.withFlags r).a = s.a := rfl
@[simp] theorem State.withFlags_f (s : State) (r : Flagged) : (s.withFlags r).f = flagByte r.z r.n r.h r.c := rfl
@[simp] theorem State.withFlags_b (s : State) (r : Flagged) : (s.withFlags r).b = s.b := rfl
@[simp] theorem State.withFlags_c (s : State) (r : Flagged) : (s.withFlags r).c = s.c := rfl
@[simp] theorem State.withFlags_d (s : State) (r : Flagged) : (s.withFlags r).d = s.d := rfl
@[simp] theorem State.withFlags_e (s : State) (r : Flagged) : (s.withFlags r).e = s.e := rfl
@[simp] theorem State.withFlags_h (s : State) (r : Flagged) : (s.withFlags r).h = s.h := rfl
@[simp] theorem State.withFlags_l (s : State) (r : Flagged) : (s.withFlags r).l = s.l := rfl
@[simp] theorem State.withFlags_sp (s : State) (r : Flagged) : (s.withFlags r).sp = s.sp := rfl
@[simp] theorem State.withFlags_pc (s : State) (r : Flagged) : (s.withFlags r).pc = s.pc := rfl
@[simp] theorem State.withFlags_execState (s : State) (r : Flagged) : (s.withFlags r).execState = s.execState := rfl
@[simp] theorem State.withFlags_cycles (s : State) (r : Flagged) : (s.withFlags r).cycles = s.cycles := rfl
@[simp] theorem State.withFlags_ime (s : State) (r : Flagged) : (s.withFlags r).ime = s.ime := rfl
@[simp] theorem State.withFlags_eiPending (s : State) (r : Flagged) : (s.withFlags r).eiPending = s.eiPending := rfl
@[simp] theorem State.withFlags_haltBug (s : State) (r : Flagged) : (s.withFlags r).haltBug = s.haltBug := rfl
@[simp] theorem State.withFlags_ie (s : State) (r : Flagged) : (s.withFlags r).ie = s.ie := rfl
@[simp] theorem State.withFlags_iflags (s : State) (r : Flagged) : (s.withFlags r).iflags = s.iflags := rfl
@[simp] theorem State.withFlags_p1 (s : State) (r : Flagged) : (s.withFlags r).p1 = s.p1 := rfl
@[simp] theorem State.withFlags_vram (s : State) (r : Flagged) : (s.withFlags r).vram = s.vram := rfl
@[simp] theorem State.withFlags_wram (s : State) (r : Flagged) : (s.withFlags r).wram = s.wram := rfl
@[simp] theorem State.withFlags_oam (s : State) (r : Flagged) : (s.withFlags r).oam = s.oam := rfl
@[simp] theorem State.withFlags_hram (s : State) (r : Flagged) : (s.withFlags r).hram = s.hram := rfl
@[simp] theorem State.withFlags_io (s : State) (r : Flagged) : (s.withFlags r).io = s.io := rfl
@[simp] theorem State.withFlags_cart (s : State) (r : Flagged) : (s.withFlags r).cart = s.cart := rfl
@[simp] theorem State.withFlags_apu (s : State) (r : Flagged) : (s.withFlags r).apu = s.apu := rfl
@[simp] theorem State.withFlags_apuNext (s : State) (r : Flagged) : (s.withFlags r).apuNext = s.apuNext := rfl
@[simp] theorem State.withFlags_params (s : State) (r : Flagged) : (s.withFlags r).params = s.params := rfl
@[simp] theorem State.withFlags_schedule (s : State) (r : Flagged) : (s.withFlags r).schedule = s.schedule := rfl
@[simp] theorem State.withFlags_read8 (s : State) (r : Flagged) (addr : Addr) : (s.withFlags r).read8 addr = s.read8 addr := rfl

/-! ### `setAf` -/

@[simp] theorem State.setAf_a (s : State) (v : Addr) : (s.setAf v).a = hiByte v := rfl
@[simp] theorem State.setAf_f (s : State) (v : Addr) : (s.setAf v).f = loByte v &&& 0xF0 := rfl
@[simp] theorem State.setAf_b (s : State) (v : Addr) : (s.setAf v).b = s.b := rfl
@[simp] theorem State.setAf_c (s : State) (v : Addr) : (s.setAf v).c = s.c := rfl
@[simp] theorem State.setAf_d (s : State) (v : Addr) : (s.setAf v).d = s.d := rfl
@[simp] theorem State.setAf_e (s : State) (v : Addr) : (s.setAf v).e = s.e := rfl
@[simp] theorem State.setAf_h (s : State) (v : Addr) : (s.setAf v).h = s.h := rfl
@[simp] theorem State.setAf_l (s : State) (v : Addr) : (s.setAf v).l = s.l := rfl
@[simp] theorem State.setAf_sp (s : State) (v : Addr) : (s.setAf v).sp = s.sp := rfl
@[simp] theorem State.setAf_pc (s : State) (v : Addr) : (s.setAf v).pc = s.pc := rfl
@[simp] theorem State.setAf_execState (s : State) (v : Addr) : (s.setAf v).execState = s.execState := rfl
@[simp] theorem State.setAf_cycles (s : State) (v : Addr) : (s.setAf v).cycles = s.cycles := rfl
@[simp] theorem State.setAf_ime (s : State) (v : Addr) : (s.setAf v).ime = s.ime := rfl
@[simp] theorem State.setAf_eiPending (s : State) (v : Addr) : (s.setAf v).eiPending = s.eiPending := rfl
@[simp] theorem State.setAf_haltBug (s : State) (v : Addr) : (s.setAf v).haltBug = s.haltBug := rfl
@[simp] theorem State.setAf_ie (s : State) (v : Addr) : (s.setAf v).ie = s.ie := rfl
@[simp] theorem State.setAf_iflags (s : State) (v : Addr) : (s.setAf v).iflags = s.iflags := rfl
@[simp] theorem State.setAf_p1 (s : State) (v : Addr) : (s.setAf v).p1 = s.p1 := rfl
@[simp] theorem State.setAf_vram (s : State) (v : Addr) : (s.setAf v).vram = s.vram := rfl
@[simp] theorem State.setAf_wram (s : State) (v : Addr) : (s.setAf v).wram = s.wram := rfl
@[simp] theorem State.setAf_oam (s : State) (v : Addr) : (s.setAf v).oam = s.oam := rfl
@[simp] theorem State.setAf_hram (s : State) (v : Addr) : (s.setAf v).hram = s.hram := rfl
@[simp] theorem State.setAf_io (s : State) (v : Addr) : (s.setAf v).io = s.io := rfl
@[simp] theorem State.setAf_cart (s : State) (v : Addr) : (s.setAf v).cart = s.cart := rfl
@[simp] theorem State.setAf_apu (s : State) (v : Addr) : (s.setAf v).apu = s.apu := rfl
@[simp] theorem State.setAf_apuNext (s : State) (v : Addr) : (s.setAf v).apuNext = s.apuNext := rfl
@[simp] theorem State.setAf_params (s : State) (v : Addr) : (s.setAf v).params = s.params := rfl
@[simp] theorem State.setAf_schedule (s : State) (v : Addr) : (s.setAf v).schedule = s.schedule := rfl
@[simp] theorem State.setAf_read8 (s : State) (v : Addr) (addr : Addr) : (s.setAf v).read8 addr = s.read8 addr := rfl

/-! ### `setBc` -/

@[simp] theorem State.setBc_a (s : State) (v : Addr) : (s.setBc v).a = s.a := rfl
@[simp] theorem State.setBc_f (s : State) (v : Addr) : (s.setBc v).f = s.f := rfl
@[simp] theorem State.setBc_b (s : State) (v : Addr) : (s.setBc v).b = hiByte v := rfl
@[simp] theorem State.setBc_c (s : State) (v : Addr) : (s.setBc v).c = loByte v := rfl
@[simp] theorem State.setBc_d (s : State) (v : Addr) : (s.setBc v).d = s.d := rfl
@[simp] theorem State.setBc_e (s : State) (v : Addr) : (s.setBc v).e = s.e := rfl
@[simp] theorem State.setBc_h (s : State) (v : Addr) : (s.setBc v).h = s.h := rfl
@[simp] theorem State.setBc_l (s : State) (v : Addr) : (s.setBc v).l = s.l := rfl
@[simp] theorem State.setBc_sp (s : State) (v : Addr) : (s.setBc v).sp = s.sp := rfl
@[simp] theorem State.setBc_pc (s : State) (v : Addr) : (s.setBc v).pc = s.pc := rfl
@[simp] theorem State.setBc_execState (s : State) (v : Addr) : (s.setBc v).execState = s.execState := rfl
@[simp] theorem State.setBc_cycles (s : State) (v : Addr) : (s.setBc v).cycles = s.cycles := rfl
@[simp] theorem State.setBc_ime (s : State) (v : Addr) : (s.setBc v).ime = s.ime := rfl
@[simp] theorem State.setBc_eiPending (s : State) (v : Addr) : (s.setBc v).eiPending = s.eiPending := rfl
@[simp] theorem State.setBc_haltBug (s : State) (v : Addr) : (s.setBc v).haltBug = s.haltBug := rfl
@[simp] theorem State.setBc_ie (s : State) (v : Addr) : (s.setBc v).ie = s.ie := rfl
@[simp] theorem State.setBc_iflags (s : State) (v : Addr) : (s.setBc v).iflags = s.iflags := rfl
@[simp] theorem State.setBc_p1 (s : State) (v : Addr) : (s.setBc v).p1 = s.p1 := rfl
@[simp] theorem State.setBc_vram (s : State) (v : Addr) : (s.setBc v).vram = s.vram := rfl
@[simp] theorem State.setBc_wram (s : State) (v : Addr) : (s.setBc v).wram = s.wram := rfl
@[simp] theorem State.setBc_oam (s : State) (v : Addr) : (s.setBc v).oam = s.oam := rfl
@[simp] theorem State.setBc_hram (s : State) (v : Addr) : (s.setBc v).hram = s.hram := rfl
@[simp] theorem State.setBc_io (s : State) (v : Addr) : (s.setBc v).io = s.io := rfl
@[simp] theorem State.setBc_cart (s : State) (v : Addr) : (s.setBc v).cart = s.cart := rfl
@[simp] theorem State.setBc_apu (s : State) (v : Addr) : (s.setBc v).apu = s.apu := rfl
@[simp] theorem State.setBc_apuNext (s : State) (v : Addr) : (s.setBc v).apuNext = s.apuNext := rfl
@[simp] theorem State.setBc_params (s : State) (v : Addr) : (s.setBc v).params = s.params := rfl
@[simp] theorem State.setBc_schedule (s : State) (v : Addr) : (s.setBc v).schedule = s.schedule := rfl
@[simp] theorem State.setBc_read8 (s : State) (v : Addr) (addr : Addr) : (s.setBc v).read8 addr = s.read8 addr := rfl

/-! ### `setDe` -/

@[simp] theorem State.setDe_a (s : State) (v : Addr) : (s.setDe v).a = s.a := rfl
@[simp] theorem State.setDe_f (s : State) (v : Addr) : (s.setDe v).f = s.f := rfl
@[simp] theorem State.setDe_b (s : State) (v : Addr) : (s.setDe v).b = s.b := rfl
@[simp] theorem State.setDe_c (s : State) (v : Addr) : (s.setDe v).c = s.c := rfl
@[simp] theorem State.setDe_d (s : State) (v : Addr) : (s.setDe v).d = hiByte v := rfl
@[simp] theorem State.setDe_e (s : State) (v : Addr) : (s.setDe v).e = loByte v := rfl
@[simp] theorem State.setDe_h (s : State) (v : Addr) : (s.setDe v).h = s.h := rfl
@[simp] theorem State.setDe_l (s : State) (v : Addr) : (s.setDe v).l = s.l := rfl
@[simp] theorem State.setDe_sp (s : State) (v : Addr) : (s.setDe v).sp = s.sp := rfl
@[simp] theorem State.setDe_pc (s : State) (v : Addr) : (s.setDe v).pc = s.pc := rfl
@[simp] theorem State.setDe_execState (s : State) (v : Addr) : (s.setDe v).execState = s.execState := rfl
@[simp] theorem State.setDe_cycles (s : State) (v : Addr) : (s.setDe v).cycles = s.cycles := rfl
@[simp] theorem State.setDe_ime (s : State) (v : Addr) : (s.setDe v).ime = s.ime := rfl
@[simp] theorem State.setDe_eiPending (s : State) (v : Addr) : (s.setDe v).eiPending = s.eiPending := rfl
@[simp] theorem State.setDe_haltBug (s : State) (v : Addr) : (s.setDe v).haltBug = s.haltBug := rfl
@[simp] theorem State.setDe_ie (s : State) (v : Addr) : (s.setDe v).ie = s.ie := rfl
@[simp] theorem State.setDe_iflags (s : State) (v : Addr) : (s.setDe v).iflags = s.iflags := rfl
@[simp] theorem State.setDe_p1 (s : State) (v : Addr) : (s.setDe v).p1 = s.p1 := rfl
@[simp] theorem State.setDe_vram (s : State) (v : Addr) : (s.setDe v).vram = s.vram := rfl
@[simp] theorem State.setDe_wram (s : State) (v : Addr) : (s.setDe v).wram = s.wram := rfl
@[simp] theorem State.setDe_oam (s : State) (v : Addr) : (s.setDe v).oam = s.oam := rfl
@[simp] theorem State.setDe_hram (s : State) (v : Addr) : (s.setDe v).hram = s.hram := rfl
@[simp] theorem State.setDe_io (s : State) (v : Addr) : (s.setDe v).io = s.io := rfl
@[simp] theorem State.setDe_cart (s : State) (v : Addr) : (s.setDe v).cart = s.cart := rfl
@[simp] theorem State.setDe_apu (s : State) (v : Addr) : (s.setDe v).apu = s.apu := rfl
@[simp] theorem State.setDe_apuNext (s : State) (v : Addr) : (s.setDe v).apuNext = s.apuNext := rfl
@[simp] theorem State.setDe_params (s : State) (v : Addr) : (s.setDe v).params = s.params := rfl
@[simp] theorem State.setDe_schedule (s : State) (v : Addr) : (s.setDe v).schedule = s.schedule := rfl
@[simp] theorem State.setDe_read8 (s : State) (v : Addr) (addr : Addr) : (s.setDe v).read8 addr = s.read8 addr := rfl

/-! ### `setHl` -/

@[simp] theorem State.setHl_a (s : State) (v : Addr) : (s.setHl v).a = s.a := rfl
@[simp] theorem State.setHl_f (s : State) (v : Addr) : (s.setHl v).f = s.f := rfl
@[simp] theorem State.setHl_b (s : State) (v : Addr) : (s.setHl v).b = s.b := rfl
@[simp] theorem State.setHl_c (s : State) (v : Addr) : (s.setHl v).c = s.c := rfl
@[simp] theorem State.setHl_d (s : State) (v : Addr) : (s.setHl v).d = s.d := rfl
@[simp] theorem State.setHl_e (s : State) (v : Addr) : (s.setHl v).e = s.e := rfl
@[simp] theorem State.setHl_h (s : State) (v : Addr) : (s.setHl v).h = hiByte v := rfl
@[simp] theorem State.setHl_l (s : State) (v : Addr) : (s.setHl v).l = loByte v := rfl
@[simp] theorem State.setHl_sp (s : State) (v : Addr) : (s.setHl v).sp = s.sp := rfl
@[simp] theorem State.setHl_pc (s : State) (v : Addr) : (s.setHl v).pc = s.pc := rfl
@[simp] theorem State.setHl_execState (s : State) (v : Addr) : (s.setHl v).execState = s.execState := rfl
@[simp] theorem State.setHl_cycles (s : State) (v : Addr) : (s.setHl v).cycles = s.cycles := rfl
@[simp] theorem State.setHl_ime (s : State) (v : Addr) : (s.setHl v).ime = s.ime := rfl
@[simp] theorem State.setHl_eiPending (s : State) (v : Addr) : (s.setHl v).eiPending = s.eiPending := rfl
@[simp] theorem State.setHl_haltBug (s : State) (v : Addr) : (s.setHl v).haltBug = s.haltBug := rfl
@[simp] theorem State.setHl_ie (s : State) (v : Addr) : (s.setHl v).ie = s.ie := rfl
@[simp] theorem State.setHl_iflags (s : State) (v : Addr) : (s.setHl v).iflags = s.iflags := rfl
@[simp] theorem State.setHl_p1 (s : State) (v : Addr) : (s.setHl v).p1 = s.p1 := rfl
@[simp] theorem State.setHl_vram (s : State) (v : Addr) : (s.setHl v).vram = s.vram := rfl
@[simp] theorem State.setHl_wram (s : State) (v : Addr) : (s.setHl v).wram = s.wram := rfl
@[simp] theorem State.setHl_oam (s : State) (v : Addr) : (s.setHl v).oam = s.oam := rfl
@[simp] theorem State.setHl_hram (s : State) (v : Addr) : (s.setHl v).hram = s.hram := rfl
@[simp] theorem State.setHl_io (s : State) (v : Addr) : (s.setHl v).io = s.io := rfl
@[simp] theorem State.setHl_cart (s : State) (v : Addr) : (s.setHl v).cart = s.cart := rfl
@[simp] theorem State.setHl_apu (s : State) (v : Addr) : (s.setHl v).apu = s.apu := rfl
@[simp] theorem State.setHl_apuNext (s : State) (v : Addr) : (s.setHl v).apuNext = s.apuNext := rfl
@[simp] theorem State.setHl_params (s : State) (v : Addr) : (s.setHl v).params = s.params := rfl
@[simp] theorem State.setHl_schedule (s : State) (v : Addr) : (s.setHl v).schedule = s.schedule := rfl
@[simp] theorem State.setHl_read8 (s : State) (v : Addr) (addr : Addr) : (s.setHl v).read8 addr = s.read8 addr := rfl

/-! ### `apuTurn` -/

@[simp] theorem State.apuTurn_a (s : State) : (s.apuTurn).a = s.a := rfl
@[simp] theorem State.apuTurn_f (s : State) : (s.apuTurn).f = s.f := rfl
@[simp] theorem State.apuTurn_b (s : State) : (s.apuTurn).b = s.b := rfl
@[simp] theorem State.apuTurn_c (s : State) : (s.apuTurn).c = s.c := rfl
@[simp] theorem State.apuTurn_d (s : State) : (s.apuTurn).d = s.d := rfl
@[simp] theorem State.apuTurn_e (s : State) : (s.apuTurn).e = s.e := rfl
@[simp] theorem State.apuTurn_h (s : State) : (s.apuTurn).h = s.h := rfl
@[simp] theorem State.apuTurn_l (s : State) : (s.apuTurn).l = s.l := rfl
@[simp] theorem State.apuTurn_sp (s : State) : (s.apuTurn).sp = s.sp := rfl
@[simp] theorem State.apuTurn_pc (s : State) : (s.apuTurn).pc = s.pc := rfl
@[simp] theorem State.apuTurn_execState (s : State) : (s.apuTurn).execState = s.execState := rfl
@[simp] theorem State.apuTurn_cycles (s : State) : (s.apuTurn).cycles = s.cycles := rfl
@[simp] theorem State.apuTurn_ime (s : State) : (s.apuTurn).ime = s.ime := rfl
@[simp] theorem State.apuTurn_eiPending (s : State) : (s.apuTurn).eiPending = s.eiPending := rfl
@[simp] theorem State.apuTurn_haltBug (s : State) : (s.apuTurn).haltBug = s.haltBug := rfl
@[simp] theorem State.apuTurn_ie (s : State) : (s.apuTurn).ie = s.ie := rfl
@[simp] theorem State.apuTurn_iflags (s : State) : (s.apuTurn).iflags = s.iflags := rfl
@[simp] theorem State.apuTurn_p1 (s : State) : (s.apuTurn).p1 = s.p1 := rfl
@[simp] theorem State.apuTurn_vram (s : State) : (s.apuTurn).vram = s.vram := rfl
@[simp] theorem State.apuTurn_wram (s : State) : (s.apuTurn).wram = s.wram := rfl
@[simp] theorem State.apuTurn_oam (s : State) : (s.apuTurn).oam = s.oam := rfl
@[simp] theorem State.apuTurn_hram (s : State) : (s.apuTurn).hram = s.hram := rfl
@[simp] theorem State.apuTurn_io (s : State) : (s.apuTurn).io = s.io := rfl
@[simp] theorem State.apuTurn_cart (s : State) : (s.apuTurn).cart = s.cart := rfl
@[simp] theorem State.apuTurn_apu (s : State) : (s.apuTurn).apu = s.apu.step := rfl
@[simp] theorem State.apuTurn_apuNext (s : State) : (s.apuTurn).apuNext = s.apuNext + s.params.apuStepPeriod := rfl
@[simp] theorem State.apuTurn_params (s : State) : (s.apuTurn).params = s.params := rfl
@[simp] theorem State.apuTurn_schedule (s : State) : (s.apuTurn).schedule = s.schedule := rfl

/-! ### `requestInterrupt` -/

@[simp] theorem State.requestInterrupt_a (s : State) (i : Fin 5) : (s.requestInterrupt i).a = s.a := rfl
@[simp] theorem State.requestInterrupt_f (s : State) (i : Fin 5) : (s.requestInterrupt i).f = s.f := rfl
@[simp] theorem State.requestInterrupt_b (s : State) (i : Fin 5) : (s.requestInterrupt i).b = s.b := rfl
@[simp] theorem State.requestInterrupt_c (s : State) (i : Fin 5) : (s.requestInterrupt i).c = s.c := rfl
@[simp] theorem State.requestInterrupt_d (s : State) (i : Fin 5) : (s.requestInterrupt i).d = s.d := rfl
@[simp] theorem State.requestInterrupt_e (s : State) (i : Fin 5) : (s.requestInterrupt i).e = s.e := rfl
@[simp] theorem State.requestInterrupt_h (s : State) (i : Fin 5) : (s.requestInterrupt i).h = s.h := rfl
@[simp] theorem State.requestInterrupt_l (s : State) (i : Fin 5) : (s.requestInterrupt i).l = s.l := rfl
@[simp] theorem State.requestInterrupt_sp (s : State) (i : Fin 5) : (s.requestInterrupt i).sp = s.sp := rfl
@[simp] theorem State.requestInterrupt_pc (s : State) (i : Fin 5) : (s.requestInterrupt i).pc = s.pc := rfl
@[simp] theorem State.requestInterrupt_execState (s : State) (i : Fin 5) : (s.requestInterrupt i).execState = s.execState := rfl
@[simp] theorem State.requestInterrupt_cycles (s : State) (i : Fin 5) : (s.requestInterrupt i).cycles = s.cycles := rfl
@[simp] theorem State.requestInterrupt_ime (s : State) (i : Fin 5) : (s.requestInterrupt i).ime = s.ime := rfl
@[simp] theorem State.requestInterrupt_eiPending (s : State) (i : Fin 5) : (s.requestInterrupt i).eiPending = s.eiPending := rfl
@[simp] theorem State.requestInterrupt_haltBug (s : State) (i : Fin 5) : (s.requestInterrupt i).haltBug = s.haltBug := rfl
@[simp] theorem State.requestInterrupt_ie (s : State) (i : Fin 5) : (s.requestInterrupt i).ie = s.ie := rfl
@[simp] theorem State.requestInterrupt_iflags (s : State) (i : Fin 5) : (s.requestInterrupt i).iflags = s.iflags ||| sourceBit i := rfl
@[simp] theorem State.requestInterrupt_p1 (s : State) (i : Fin 5) : (s.requestInterrupt i).p1 = s.p1 := rfl
@[simp] theorem State.requestInterrupt_vram (s : State) (i : Fin 5) : (s.requestInterrupt i).vram = s.vram := rfl
@[simp] theorem State.requestInterrupt_wram (s : State) (i : Fin 5) : (s.requestInterrupt i).wram = s.wram := rfl
@[simp] theorem State.requestInterrupt_oam (s : State) (i : Fin 5) : (s.requestInterrupt i).oam = s.oam := rfl
@[simp] theorem State.requestInterrupt_hram (s : State) (i : Fin 5) : (s.requestInterrupt i).hram = s.hram := rfl
@[simp] theorem State.requestInterrupt_io (s : State) (i : Fin 5) : (s.requestInterrupt i).io = s.io := rfl
@[simp] theorem State.requestInterrupt_cart (s : State) (i : Fin 5) : (s.requestInterrupt i).cart = s.cart := rfl
@[simp] theorem State.requestInterrupt_apu (s : State) (i : Fin 5) : (s.requestInterrupt i).apu = s.apu := rfl
@[simp] theorem State.requestInterrupt_apuNext (s : State) (i : Fin 5) : (s.requestInterrupt i).apuNext = s.apuNext := rfl
@[simp] theorem State.requestInterrupt_params (s : State) (i : Fin 5) : (s.requestInterrupt i).params = s.params := rfl
@[simp] theorem State.requestInterrupt_schedule (s : State) (i : Fin 5) : (s.requestInterrupt i).schedule = s.schedule := rfl

/-! ### `setReg8` -/

@[simp] theorem State.setReg8_f (s : State) (r : Reg8) (v : Byte) : (s.setReg8 r v).f = s.f := by cases r <;> rfl
@[simp] theorem State.setReg8_sp (s : State) (r : Reg8) (v : Byte) : (s.setReg8 r v).sp = s.sp := by cases r <;> rfl
@[simp] theorem State.setReg8_pc (s : State) (r : Reg8) (v : Byte) : (s.setReg8 r v).pc = s.pc := by cases r <;> rfl
@[simp] theorem State.setReg8_execState (s : State) (r : Reg8) (v : Byte) : (s.setReg8 r v).execState = s.execState := by cases r <;> rfl
@[simp] theorem State.setReg8_cycles (s : State) (r : Reg8) (v : Byte) : (s.setReg8 r v).cycles = s.cycles := by cases r <;> rfl
@[simp] theorem State.setReg8_ime (s : State) (r : Reg8) (v : Byte) : (s.setReg8 r v).ime = s.ime := by cases r <;> rfl
@[simp] theorem State.setReg8_eiPending (s : State) (r : Reg8) (v : Byte) : (s.setReg8 r v).eiPending = s.eiPending := by cases r <;> rfl
@[simp] theorem State.setReg8_haltBug (s : State) (r : Reg8) (v : Byte) : (s.setReg8 r v).haltBug = s.haltBug := by cases r <;> rfl
@[simp] theorem State.setReg8_ie (s : State) (r : Reg8) (v : Byte) : (s.setReg8 r v).ie = s.ie := by cases r <;> rfl
@[simp] theorem State.setReg8_iflags (s : State) (r : Reg8) (v : Byte) : (s.setReg8 r v).iflags = s.iflags := by cases r <;> rfl
@[simp] theorem State.setReg8_p1 (s : State) (r : Reg8) (v : Byte) : (s.setReg8 r v).p1 = s.p1 := by cases r <;> rfl
@[simp] theorem State.setReg8_vram (s : State) (r : Reg8) (v : Byte) : (s.setReg8 r v).vram = s.vram := by cases r <;> rfl
@[simp] theorem State.setReg8_wram (s : State) (r : Reg8) (v : Byte) : (s.setReg8 r v).wram = s.wram := by cases r <;> rfl
@[simp] theorem State.setReg8_oam (s : State) (r : Reg8) (v : Byte) : (s.setReg8 r v).oam = s.oam := by cases r <;> rfl
@[simp] theorem State.setReg8_hram (s : State) (r : Reg8) (v : Byte) : (s.setReg8 r v).hram = s.hram := by cases r <;> rfl
@[simp] theorem State.setReg8_io (s : State) (r : Reg8) (v : Byte) : (s.setReg8 r v).io = s.io := by cases r <;> rfl
@[simp] theorem State.setReg8_cart (s : State) (r : Reg8) (v : Byte) : (s.setReg8 r v).cart = s.cart := by cases r <;> rfl
@[simp] theorem State.setReg8_apu (s : State) (r : Reg8) (v : Byte) : (s.setReg8 r v).apu = s.apu := by cases r <;> rfl
@[simp] theorem State.setReg8_apuNext (s : State) (r : Reg8) (v : Byte) : (s.setReg8 r v).apuNext = s.apuNext := by cases r <;> rfl
@[simp] theorem State.setReg8_params (s : State) (r : Reg8) (v : Byte) : (s.setReg8 r v).params = s.params := by cases r <;> rfl
@[simp] theorem State.setReg8_schedule (s : State) (r : Reg8) (v : Byte) : (s.setReg8 r v).schedule = s.schedule := by cases r <;> rfl
@[simp] theorem State.setReg8_read8 (s : State) (r : Reg8) (v : Byte) (addr : Addr) : (s.setReg8 r v).read8 addr = s.read8 addr := by cases r <;> rfl

/-! ### `setReg16` -/

@[simp] theorem State.setReg16_a (s : State) (r : Reg16) (v : Addr) : (s.setReg16 r v).a = s.a := by cases r <;> rfl
@[simp] theorem State.setReg16_f (s : State) (r : Reg16) (v : Addr) : (s.setReg16 r v).f = s.f := by cases r <;> rfl
@[simp] theorem State.setReg16_pc (s : State) (r : Reg16) (v : Addr) : (s.setReg16 r v).pc = s.pc := by cases r <;> rfl
@[simp] theorem State.setReg16_execState (s : State) (r : Reg16) (v : Addr) : (s.setReg16 r v).execState = s.execState := by cases r <;> rfl
@[simp] theorem State.setReg16_cycles (s : State) (r : Reg16) (v : Addr) : (s.setReg16 r v).cycles = s.cycles := by cases r <;> rfl
@[simp] theorem State.setReg16_ime (s : State) (r : Reg16) (v : Addr) : (s.setReg16 r v).ime = s.ime := by cases r <;> rfl
@[simp] theorem State.setReg16_eiPending (s : State) (r : Reg16) (v : Addr) : (s.setReg16 r v).eiPending = s.eiPending := by cases r <;> rfl
@[simp] theorem State.setReg16_haltBug (s : State) (r : Reg16) (v : Addr) : (s.setReg16 r v).haltBug = s.haltBug := by cases r <;> rfl
@[simp] theorem State.setReg16_ie (s : State) (r : Reg16) (v : Addr) : (s.setReg16 r v).ie = s.ie := by cases r <;> rfl
@[simp] theorem State.setReg16_iflags (s : State) (r : Reg16) (v : Addr) : (s.setReg16 r v).iflags = s.iflags := by cases r <;> rfl
@[simp] theorem State.setReg16_p1 (s : State) (r : Reg16) (v : Addr) : (s.setReg16 r v).p1 = s.p1 := by cases r <;> rfl
@[simp] theorem State.setReg16_vram (s : State) (r : Reg16) (v : Addr) : (s.setReg16 r v).vram = s.vram := by cases r <;> rfl
@[simp] theorem State.setReg16_wram (s : State) (r : Reg16) (v : Addr) : (s.setReg16 r v).wram = s.wram := by cases r <;> rfl
@[simp] theorem State.setReg16_oam (s : State) (r : Reg16) (v : Addr) : (s.setReg16 r v).oam = s.oam := by cases r <;> rfl
@[simp] theorem State.setReg16_hram (s : State) (r : Reg16) (v : Addr) : (s.setReg16 r v).hram = s.hram := by cases r <;> rfl
@[simp] theorem State.setReg16_io (s : State) (r : Reg16) (v : Addr) : (s.setReg16 r v).io = s.io := by cases r <;> rfl
@[simp] theorem State.setReg16_cart (s : State) (r : Reg16) (v : Addr) : (s.setReg16 r v).cart = s.cart := by cases r <;> rfl
@[simp] theorem State.setReg16_apu (s : State) (r : Reg16) (v : Addr) : (s.setReg16 r v).apu = s.apu := by cases r <;> rfl
@[simp] theorem State.setReg16_apuNext (s : State) (r : Reg16) (v : Addr) : (s.setReg16 r v).apuNext = s.apuNext := by cases r <;> rfl
@[simp] theorem State.setReg16_params (s : State) (r : Reg16) (v : Addr) : (s.setReg16 r v).params = s.params := by cases r <;> rfl
@[simp] theorem State.setReg16_schedule (s : State) (r : Reg16) (v : Addr) : (s.setReg16 r v).schedule = s.schedule := by cases r <;> rfl
@[simp] theorem State.setReg16_read8 (s : State) (r : Reg16) (v : Addr) (addr : Addr) : (s.setReg16 r v).read8 addr = s.read8 addr := by cases r <;> rfl

/-! ### `setStackReg` -/

@[simp] theorem State.setStackReg_sp (s : State) (r : StackReg) (v : Addr) : (s.setStackReg r v).sp = s.sp := by cases r <;> rfl
@[simp] theorem State.setStackReg_pc (s : State) (r : StackReg) (v : Addr) : (s.setStackReg r v).pc = s.pc := by cases r <;> rfl
@[simp] theorem State.setStackReg_execState (s : State) (r : StackReg) (v : Addr) : (s.setStackReg r v).execState = s.execState := by cases r <;> rfl
@[simp] theorem State.setStackReg_cycles (s : State) (r : StackReg) (v : Addr) : (s.setStackReg r v).cycles = s.cycles := by cases r <;> rfl
@[simp] theorem State.setStackReg_ime (s : State) (r : StackReg) (v : Addr) : (s.setStackReg r v).ime = s.ime := by cases r <;> rfl
@[simp] theorem State.setStackReg_eiPending (s : State) (r : StackReg) (v : Addr) : (s.setStackReg r v).eiPending = s.eiPending := by cases r <;> rfl
@[simp] theorem State.setStackReg_haltBug (s : State) (r : StackReg) (v : Addr) : (s.setStackReg r v).haltBug = s.haltBug := by cases r <;> rfl
@[simp] theorem State.setStackReg_ie (s : State) (r : StackReg) (v : Addr) : (s.setStackReg r v).ie = s.ie := by cases r <;> rfl
@[simp] theorem State.setStackReg_iflags (s : State) (r : StackReg) (v : Addr) : (s.setStackReg r v).iflags = s.iflags := by cases r <;> rfl
@[simp] theorem State.setStackReg_p1 (s : State) (r : StackReg) (v : Addr) : (s.setStackReg r v).p1 = s.p1 := by cases r <;> rfl
@[simp] theorem State.setStackReg_vram (s : State) (r : StackReg) (v : Addr) : (s.setStackReg r v).vram = s.vram := by cases r <;> rfl
@[simp] theorem State.setStackReg_wram (s : State) (r : StackReg) (v : Addr) : (s.setStackReg r v).wram = s.wram := by cases r <;> rfl
@[simp] theorem State.setStackReg_oam (s : State) (r : StackReg) (v : Addr) : (s.setStackReg r v).oam = s.oam := by cases r <;> rfl
@[simp] theorem State.setStackReg_hram (s : State) (r : StackReg) (v : Addr) : (s.setStackReg r v).hram = s.hram := by cases r <;> rfl
@[simp] theorem State.setStackReg_io (s : State) (r : StackReg) (v : Addr) : (s.setStackReg r v).io = s.io := by cases r <;> rfl
@[simp] theorem State.setStackReg_cart (s : State) (r : StackReg) (v : Addr) : (s.setStackReg r v).cart = s.cart := by cases r <;> rfl
@[simp] theorem State.setStackReg_apu (s : State) (r : StackReg) (v : Addr) : (s.setStackReg r v).apu = s.apu := by cases r <;> rfl
@[simp] theorem State.setStackReg_apuNext (s : State) (r : StackReg) (v : Addr) : (s.setStackReg r v).apuNext = s.apuNext := by cases r <;> rfl
@[simp] theorem State.setStackReg_params (s : State) (r : StackReg) (v : Addr) : (s.setStackReg r v).params = s.params := by cases r <;> rfl
@[simp] theorem State.setStackReg_schedule (s : State) (r : StackReg) (v : Addr) : (s.setStackReg r v).schedule = s.schedule := by cases r <;> rfl
@[simp] theorem State.setStackReg_read8 (s : State) (r : StackReg) (v : Addr) (addr : Addr) : (s.setStackReg r v).read8 addr = s.read8 addr := by cases r <;> rfl

/-! ### `stepPointer` -/

@[simp] theorem State.stepPointer_a (s : State) (p : Pointer) : (s.stepPointer p).a = s.a := by cases p <;> rfl
@[simp] theorem State.stepPointer_f (s : State) (p : Pointer) : (s.stepPointer p).f = s.f := by cases p <;> rfl
@[simp] theorem State.stepPointer_b (s : State) (p : Pointer) : (s.stepPointer p).b = s.b := by cases p <;> rfl
@[simp] theorem State.stepPointer_c (s : State) (p : Pointer) : (s.stepPointer p).c = s.c := by cases p <;> rfl
@[simp] theorem State.stepPointer_d (s : State) (p : Pointer) : (s.stepPointer p).d = s.d := by cases p <;> rfl
@[simp] theorem State.stepPointer_e (s : State) (p : Pointer) : (s.stepPointer p).e = s.e := by cases p <;> rfl
@[simp] theorem State.stepPointer_sp (s : State) (p : Pointer) : (s.stepPointer p).sp = s.sp := by cases p <;> rfl
@[simp] theorem State.stepPointer_pc (s : State) (p : Pointer) : (s.stepPointer p).pc = s.pc := by cases p <;> rfl
@[simp] theorem State.stepPointer_execState (s : State) (p : Pointer) : (s.stepPointer p).execState = s.execState := by cases p <;> rfl
@[simp] theorem State.stepPointer_cycles (s : State) (p : Pointer) : (s.stepPointer p).cycles = s.cycles := by cases p <;> rfl
@[simp] theorem State.stepPointer_ime (s : State) (p : Pointer) : (s.stepPointer p).ime = s.ime := by cases p <;> rfl
@[simp] theorem State.stepPointer_eiPending (s : State) (p : Pointer) : (s.stepPointer p).eiPending = s.eiPending := by cases p <;> rfl
@[simp] theorem State.stepPointer_haltBug (s : State) (p : Pointer) : (s.stepPointer p).haltBug = s.haltBug := by cases p <;> rfl
@[simp] theorem State.stepPointer_ie (s : State) (p : Pointer) : (s.stepPointer p).ie = s.ie := by cases p <;> rfl
@[simp] theorem State.stepPointer_iflags (s : State) (p : Pointer) : (s.stepPointer p).iflags = s.iflags := by cases p <;> rfl
@[simp] theorem State.stepPointer_p1 (s : State) (p : Pointer) : (s.stepPointer p).p1 = s.p1 := by cases p <;> rfl
@[simp] theorem State.stepPointer_vram (s : State) (p : Pointer) : (s.stepPointer p).vram = s.vram := by cases p <;> rfl
@[simp] theorem State.stepPointer_wram (s : State) (p : Pointer) : (s.stepPointer p).wram = s.wram := by cases p <;> rfl
@[simp] theorem State.stepPointer_oam (s : State) (p : Pointer) : (s.stepPointer p).oam = s.oam := by cases p <;> rfl
@[simp] theorem State.stepPointer_hram (s : State) (p : Pointer) : (s.stepPointer p).hram = s.hram := by cases p <;> rfl
@[simp] theorem State.stepPointer_io (s : State) (p : Pointer) : (s.stepPointer p).io = s.io := by cases p <;> rfl
@[simp] theorem State.stepPointer_cart (s : State) (p : Pointer) : (s.stepPointer p).cart = s.cart := by cases p <;> rfl
@[simp] theorem State.stepPointer_apu (s : State) (p : Pointer) : (s.stepPointer p).apu = s.apu := by cases p <;> rfl
@[simp] theorem State.stepPointer_apuNext (s : State) (p : Pointer) : (s.stepPointer p).apuNext = s.apuNext := by cases p <;> rfl
@[simp] theorem State.stepPointer_params (s : State) (p : Pointer) : (s.stepPointer p).params = s.params := by cases p <;> rfl
@[simp] theorem State.stepPointer_schedule (s : State) (p : Pointer) : (s.stepPointer p).schedule = s.schedule := by cases p <;> rfl
@[simp] theorem State.stepPointer_read8 (s : State) (p : Pointer) (addr : Addr) : (s.stepPointer p).read8 addr = s.read8 addr := by cases p <;> rfl

/-! ### `promoteEi` -/

@[simp] theorem State.promoteEi_a (s : State) : (s.promoteEi).a = s.a := by unfold State.promoteEi; split <;> rfl
@[simp] theorem State.promoteEi_f (s : State) : (s.promoteEi).f = s.f := by unfold State.promoteEi; split <;> rfl
@[simp] theorem State.promoteEi_b (s : State) : (s.promoteEi).b = s.b := by unfold State.promoteEi; split <;> rfl
@[simp] theorem State.promoteEi_c (s : State) : (s.promoteEi).c = s.c := by unfold State.promoteEi; split <;> rfl
@[simp] theorem State.promoteEi_d (s : State) : (s.promoteEi).d = s.d := by unfold State.promoteEi; split <;> rfl
@[simp] theorem State.promoteEi_e (s : State) : (s.promoteEi).e = s.e := by unfold State.promoteEi; split <;> rfl
@[simp] theorem State.promoteEi_h (s : State) : (s.promoteEi).h = s.h := by unfold State.promoteEi; split <;> rfl
@[simp] theorem State.promoteEi_l (s : State) : (s.promoteEi).l = s.l := by unfold State.promoteEi; split <;> rfl
@[simp] theorem State.promoteEi_sp (s : State) : (s.promoteEi).sp = s.sp := by unfold State.promoteEi; split <;> rfl
@[simp] theorem State.promoteEi_pc (s : State) : (s.promoteEi).pc = s.pc := by unfold State.promoteEi; split <;> rfl
@[simp] theorem State.promoteEi_execState (s : State) : (s.promoteEi).execState = s.execState := by unfold State.promoteEi; split <;> rfl
@[simp] theorem State.promoteEi_cycles (s : State) : (s.promoteEi).cycles = s.cycles := by unfold State.promoteEi; split <;> rfl
@[simp] theorem State.promoteEi_haltBug (s : State) : (s.promoteEi).haltBug = s.haltBug := by unfold State.promoteEi; split <;> rfl
@[simp] theorem State.promoteEi_ie (s : State) : (s.promoteEi).ie = s.ie := by unfold State.promoteEi; split <;> rfl
@[simp] theorem State.promoteEi_iflags (s : State) : (s.promoteEi).iflags = s.iflags := by unfold State.promoteEi; split <;> rfl
@[simp] theorem State.promoteEi_p1 (s : State) : (s.promoteEi).p1 = s.p1 := by unfold State.promoteEi; split <;> rfl
@[simp] theorem State.promoteEi_vram (s : State) : (s.promoteEi).vram = s.vram := by unfold State.promoteEi; split <;> rfl
@[simp] theorem State.promoteEi_wram (s : State) : (s.promoteEi).wram = s.wram := by unfold State.promoteEi; split <;> rfl
@[simp] theorem State.promoteEi_oam (s : State) : (s.promoteEi).oam = s.oam := by unfold State.promoteEi; split <;> rfl
@[simp] theorem State.promoteEi_hram (s : State) : (s.promoteEi).hram = s.hram := by unfold State.promoteEi; split <;> rfl
@[simp] theorem State.promoteEi_io (s : State) : (s.promoteEi).io = s.io := by unfold State.promoteEi; split <;> rfl
@[simp] theorem State.promoteEi_cart (s : State) : (s.promoteEi).cart = s.cart := by unfold State.promoteEi; split <;> rfl
@[simp] theorem State.promoteEi_apu (s : State) : (s.promoteEi).apu = s.apu := by unfold State.promoteEi; split <;> rfl
@[simp] theorem State.promoteEi_apuNext (s : State) : (s.promoteEi).apuNext = s.apuNext := by unfold State.promoteEi; split <;> rfl
@[simp] theorem State.promoteEi_params (s : State) : (s.promoteEi).params = s.params := by unfold State.promoteEi; split <;> rfl
@[simp] theorem State.promoteEi_schedule (s : State) : (s.promoteEi).schedule = s.schedule := by unfold State.promoteEi; split <;> rfl
@[simp] theorem State.promoteEi_read8 (s : State) (addr : Addr) : (s.promoteEi).read8 addr = s.read8 addr := by unfold State.promoteEi; split <;> rfl

/-! ### Registers and pairs after a write -/

@[simp] theorem State.setReg8_reg8 (s : State) (r q : Reg8) (v : Byte) :
    (s.setReg8 r v).reg8 q = if q = r then v else s.reg8 q := by
  cases r <;> cases q <;> rfl

theorem wordOf_lo_hi (v : Addr) : wordOf (loByte v) (hiByte v) = v := by
  apply BitVec.eq_of_getLsbD_eq
  intro i hi
  unfold wordOf loByte hiByte
  rw [BitVec.getLsbD_append]
  by_cases h : i < 8
  · simp [h]
  · have h8 : i - 8 < 8 := by omega
    have h9 : 8 + (i - 8) = i := by omega
    simp [h, h8, h9]

@[simp] theorem hi_append_lo (v : Addr) : hiByte v ++ loByte v = v := wordOf_lo_hi v

@[simp] theorem loByte_append (x y : Byte) : loByte (x ++ y) = y := by
  ext i hi
  simp only [loByte, BitVec.getElem_extractLsb', BitVec.getLsbD_append]
  simp [hi]

@[simp] theorem hiByte_append (x y : Byte) : hiByte (x ++ y) = x := by
  ext i hi
  simp only [hiByte, BitVec.getElem_extractLsb', BitVec.getLsbD_append]
  simp [hi]

@[simp] theorem State.setReg16_reg16 (s : State) (r q : Reg16) (v : Addr) :
    (s.setReg16 r v).reg16 q = if q = r then v else s.reg16 q := by
  cases r <;> cases q <;>
    simp [State.setReg16, State.reg16, State.bc, State.de, State.hl]

@[simp] theorem State.setHl_hl (s : State) (v : Addr) : (s.setHl v).hl = v := by
  simp [State.hl]

/-! ### Flags -/

@[simp] theorem flagByte_z (z n h c : Bool) : (flagByte z n h c)[7] = z := by
  cases z <;> cases n <;> cases h <;> cases c <;> rfl

@[simp] theorem flagByte_n (z n h c : Bool) : (flagByte z n h c)[6] = n := by
  cases z <;> cases n <;> cases h <;> cases c <;> rfl

@[simp] theorem flagByte_h (z n h c : Bool) : (flagByte z n h c)[5] = h := by
  cases z <;> cases n <;> cases h <;> cases c <;> rfl

@[simp] theorem flagByte_c (z n h c : Bool) : (flagByte z n h c)[4] = c := by
  cases z <;> cases n <;> cases h <;> cases c <;> rfl

@[simp] theorem flagByte_low (z n h c : Bool) : flagByte z n h c &&& 15#8 = 0#8 := by
  cases z <;> cases n <;> cases h <;> cases c <;> rfl

/-- A state whose F is `flagByte` has those flags. -/
theorem State.hasFlags_of_f {t : State} {z n h c : Bool} (hf : t.f = flagByte z n h c) : t.HasFlags z n h c := by
  constructor <;> simp [State.flagZ, State.flagN, State.flagH, State.flagC, hf]

end Sys2Proof.Machine
end

