-- ==== Sys2Proof/Laws/Ops.lean ====
section
/-! SUPPORT. One lemma for each shared operation of Ops.lean that says what it can do: sequencing, the reads and the one-byte write, the two-byte write,
the push, taking an interrupt, the interrupt check and the audio catch-up. -/

namespace Sys2Proof.Machine

/-! ## Sequencing -/

@[simp] theorem Result.andThen_next (s : State) (f : State → Result) : Result.andThen (.next s) f = f s := rfl

@[simp] theorem Result.andThen_fault (x : Fault) (f : State → Result) : Result.andThen (.fault x) f = .fault x := rfl

@[simp] theorem Result.andThen_refused (x : Refusal) (f : State → Result) : Result.andThen (.refused x) f = .refused x := rfl

/-- A sequence ends in a next state exactly when both parts do. -/
theorem Result.andThen_eq_next {r : Result} {f : State → Result} {t : State} :
    r.andThen f = .next t ↔ ∃ s, r = .next s ∧ f s = .next t := by
  cases r with
  | next s => simp
  | fault x => simp
  | refused x => simp

@[simp] theorem Result.thenTick_next (s : State) (n : Nat) : Result.thenTick (.next s) n = .next (s.tick n) := rfl

theorem Result.thenTick_eq_next {r : Result} {n : Nat} {t : State} :
    r.thenTick n = .next t ↔ ∃ s, r = .next s ∧ t = s.tick n := by
  unfold Result.thenTick
  rw [Result.andThen_eq_next]
  simp only [Host.Outcome.next.injEq, eq_comm]

/-! ## What a read depends on -/

/-- Reading depends on the stores and on the parameters only. -/
theorem State.read8_congr {s t : State} (h : s.StoresSame t) (hp : t.params = s.params) (addr : Addr) :
    t.read8 addr = s.read8 addr := by
  simp only [State.read8, State.ioRead, h.ie, h.iflags, h.p1, h.vram, h.wram, h.oam, h.hram, h.io, h.cart, h.apu, hp]

theorem State.StoresSame.refl (s : State) : s.StoresSame s := by
  constructor <;> rfl

theorem State.StoresSame.trans {s t u : State} (h : s.StoresSame t) (h' : t.StoresSame u) : s.StoresSame u := by
  constructor
  · rw [h'.ie, h.ie]
  · rw [h'.iflags, h.iflags]
  · rw [h'.p1, h.p1]
  · rw [h'.vram, h.vram]
  · rw [h'.wram, h.wram]
  · rw [h'.oam, h.oam]
  · rw [h'.hram, h.hram]
  · rw [h'.io, h.io]
  · rw [h'.cart, h.cart]
  · rw [h'.apu, h.apu]

/-! ## The write of one byte -/

/-- No write changes the cartridge's kind, image or sizes (R34, R37, R93). -/
theorem Cart.write_fixed (cart : Cart) (addr : Nat) (v : Byte) :
    (cart.write addr v).kind = cart.kind ∧ (cart.write addr v).rom = cart.rom ∧
      (cart.write addr v).romBanks = cart.romBanks ∧ (cart.write addr v).ramSize = cart.ramSize := by
  unfold Cart.write
  split
  · exact ⟨rfl, rfl, rfl, rfl⟩
  · split
    · exact ⟨rfl, rfl, rfl, rfl⟩
    · split
      · exact ⟨rfl, rfl, rfl, rfl⟩
      · split
        · exact ⟨rfl, rfl, rfl, rfl⟩
        · split
          · exact ⟨rfl, rfl, rfl, rfl⟩
          · split <;> exact ⟨rfl, rfl, rfl, rfl⟩

/-- A store into the I/O block is a change of the joypad byte, the request flags, the audio unit or the plain bytes. -/
theorem State.ioWrite_cases (s : State) (k : Nat) (v : Byte) :
    (∃ p1, s.ioWrite k v = { s with p1 := p1 }) ∨ (∃ x, s.ioWrite k v = { s with iflags := x }) ∨
      (∃ apu, s.ioWrite k v = { s with apu := apu }) ∨ ∃ io, s.ioWrite k v = { s with io := io } := by
  unfold State.ioWrite
  split
  · exact .inl ⟨_, rfl⟩
  · split
    · exact .inr (.inl ⟨_, rfl⟩)
    · split
      · exact .inr (.inr (.inl ⟨_, rfl⟩))
      · exact .inr (.inr (.inr ⟨_, rfl⟩))

/-- A store changes nothing outside the stores: the state after it is the state before it with other stores. -/
theorem State.store8_eq (s : State) (addr : Addr) (v : Byte) :
    s.store8 addr v =
      { s with
        ie := (s.store8 addr v).ie
        iflags := (s.store8 addr v).iflags
        p1 := (s.store8 addr v).p1
        vram := (s.store8 addr v).vram
        wram := (s.store8 addr v).wram
        oam := (s.store8 addr v).oam
        hram := (s.store8 addr v).hram
        io := (s.store8 addr v).io
        cart := (s.store8 addr v).cart
        apu := (s.store8 addr v).apu } := by
  unfold State.store8
  cases region addr
  case io =>
    rcases s.ioWrite_cases (addr.toNat - 0xFF00) v with ⟨_, h⟩ | ⟨_, h⟩ | ⟨_, h⟩ | ⟨_, h⟩ <;>
      dsimp only <;> rw [h]
  all_goals rfl

/-- Equal stores and parameters give equal stores after the same store. -/
theorem State.store8_congr {s t : State} (h : s.StoresSame t) (hp : t.params = s.params) (addr : Addr) (v : Byte) :
    (s.store8 addr v).StoresSame (t.store8 addr v) := by
  unfold State.store8
  cases region addr
  case io =>
    unfold State.ioWrite
    dsimp only
    split
    · constructor <;> simp [h.ie, h.iflags, h.p1, h.vram, h.wram, h.oam, h.hram, h.io, h.cart, h.apu]
    · split
      · constructor <;> simp [h.ie, h.p1, h.vram, h.wram, h.oam, h.hram, h.io, h.cart, h.apu]
      · split
        · constructor <;> simp [h.ie, h.iflags, h.p1, h.vram, h.wram, h.oam, h.hram, h.io, h.cart, h.apu, hp]
        · constructor <;> simp [h.ie, h.iflags, h.p1, h.vram, h.wram, h.oam, h.hram, h.io, h.cart, h.apu]
  all_goals
    constructor <;> simp [h.ie, h.iflags, h.p1, h.vram, h.wram, h.oam, h.hram, h.io, h.cart, h.apu]

theorem State.store8_kind (s : State) (addr : Addr) (v : Byte) : (s.store8 addr v).cart.kind = s.cart.kind := by
  unfold State.store8
  cases region addr
  case io =>
    rcases s.ioWrite_cases (addr.toNat - 0xFF00) v with ⟨_, h⟩ | ⟨_, h⟩ | ⟨_, h⟩ | ⟨_, h⟩ <;>
      dsimp only <;> rw [h]
  case romFixed => exact (s.cart.write_fixed addr.toNat v).1
  case romSwitch => exact (s.cart.write_fixed addr.toNat v).1
  case cartRam => exact (s.cart.write_fixed addr.toNat v).1
  all_goals rfl

/-- Whether a write faults depends on the kind of cartridge, the address and the value (R97). -/
theorem State.writeFaults_congr {s t : State} (h : t.cart.kind = s.cart.kind) (addr : Addr) (v : Byte) :
    t.writeFaults addr v = s.writeFaults addr v := by
  simp only [State.writeFaults, Cart.selectsMode4, h]

/-- A write ends in a next state exactly when it selects no unsupported mode, and then it is the store. -/
theorem State.write8_eq_next {s t : State} {addr : Addr} {v : Byte} :
    s.write8 addr v = .next t ↔ s.writeFaults addr v = false ∧ t = s.store8 addr v := by
  unfold State.write8
  cases h : s.writeFaults addr v <;> simp [eq_comm]

theorem State.write8_of_ok {s : State} {addr : Addr} {v : Byte} (h : s.writeFaults addr v = false) :
    s.write8 addr v = .next (s.store8 addr v) :=
  write8_eq_next.mpr ⟨h, rfl⟩

/-- Fields that no store reaches. -/
theorem State.store8_regs (s : State) (addr : Addr) (v : Byte) :
    (s.store8 addr v).a = s.a ∧ (s.store8 addr v).f = s.f ∧ (s.store8 addr v).b = s.b ∧ (s.store8 addr v).c = s.c ∧
      (s.store8 addr v).d = s.d ∧ (s.store8 addr v).e = s.e ∧ (s.store8 addr v).h = s.h ∧ (s.store8 addr v).l = s.l ∧
        (s.store8 addr v).sp = s.sp ∧ (s.store8 addr v).pc = s.pc ∧ (s.store8 addr v).cycles = s.cycles ∧
          (s.store8 addr v).haltBug = s.haltBug := by
  rw [s.store8_eq addr v]
  simp

theorem State.store8_control (s : State) (addr : Addr) (v : Byte) : s.ControlSame (s.store8 addr v) := by
  rw [s.store8_eq addr v]
  constructor <;> rfl

@[simp] theorem State.store8_params (s : State) (addr : Addr) (v : Byte) : (s.store8 addr v).params = s.params :=
  (s.store8_control addr v).params

@[simp] theorem State.store8_sp (s : State) (addr : Addr) (v : Byte) : (s.store8 addr v).sp = s.sp :=
  (s.store8_regs addr v).2.2.2.2.2.2.2.2.1

/-! ## Two bytes -/

/-- The two-byte write: both bytes are written, the low one first, if neither selects the unsupported mode. -/
theorem State.write16_of_ok {s : State} {addr v : Addr} (h : s.TwoWritesOk addr (loByte v) (addr + 1) (hiByte v)) :
    s.write16 addr v = .next ((s.store8 addr (loByte v)).store8 (addr + 1) (hiByte v)) := by
  have h2 : (s.store8 addr (loByte v)).writeFaults (addr + 1) (hiByte v) = false := by
    rw [writeFaults_congr (store8_kind s addr (loByte v))]
    exact h.2
  unfold State.write16
  rw [write8_of_ok h.1, Result.andThen_next, write8_of_ok h2]

/-- The push: the high byte at SP - 1, then the low byte at SP - 2, if neither selects the unsupported mode. -/
theorem State.push16_of_ok {s : State} {v : Addr} (h : s.TwoWritesOk (s.sp - 1) (hiByte v) (s.sp - 1 - 1) (loByte v)) :
    ∃ t, s.push16 v = .next t ∧ t.sp = s.sp - 1 - 1 ∧
      ((s.store8 (s.sp - 1) (hiByte v)).store8 (s.sp - 1 - 1) (loByte v)).StoresSame t ∧
        t = { t with
              a := s.a, f := s.f, b := s.b, c := s.c, d := s.d, e := s.e, h := s.h, l := s.l, pc := s.pc
              execState := s.execState, cycles := s.cycles, ime := s.ime, eiPending := s.eiPending, haltBug := s.haltBug
              apuNext := s.apuNext, params := s.params, schedule := s.schedule } := by
  have h1 : ({ s with sp := s.sp - 1 } : State).writeFaults (s.sp - 1) (hiByte v) = false := h.1
  have h2 : ({ ({ s with sp := s.sp - 1 } : State).store8 (s.sp - 1) (hiByte v) with sp := s.sp - 1 - 1 } : State).writeFaults
      (s.sp - 1 - 1) (loByte v) = false := by
    rw [writeFaults_congr (t := { ({ s with sp := s.sp - 1 } : State).store8 (s.sp - 1) (hiByte v) with sp := s.sp - 1 - 1 })
      (s := s) (store8_kind _ _ _)]
    exact h.2
  have hpush : s.push16 v = .next (({ ({ s with sp := s.sp - 1 } : State).store8 (s.sp - 1) (hiByte v) with
      sp := s.sp - 1 - 1 } : State).store8 (s.sp - 1 - 1) (loByte v)) := by
    simp only [State.push16, write8_of_ok h1, Result.andThen_next, store8_sp, write8_of_ok h2]
  refine ⟨_, hpush, by simp, ?_, ?_⟩
  · apply store8_congr
    · have h0 : s.StoresSame { s with sp := s.sp - 1 } := by constructor <;> rfl
      have := store8_congr h0 rfl (s.sp - 1) (hiByte v)
      refine this.trans ?_
      constructor <;> rfl
    · simp
  · rw [State.store8_eq]
    simp [State.store8_regs, (State.store8_control _ _ _).execState, (State.store8_control _ _ _).ime,
      (State.store8_control _ _ _).eiPending, (State.store8_control _ _ _).apuNext, (State.store8_control _ _ _).schedule]

/-! ## Interrupts -/

/-- The check leaves the state alone unless IME is set and a source is pending; then it takes the lowest-numbered one (R305). -/
theorem State.interruptCheck_cases (s : State) :
    s.interruptCheck = .next s ∨
      ∃ i, s.ime = true ∧ lowestSource s.pend = some i ∧ s.interruptCheck = s.takeInterrupt i := by
  unfold State.interruptCheck
  split
  · split
    · exact .inr ⟨_, by assumption, by assumption, rfl⟩
    · exact .inl rfl
  · exact .inl rfl

/-- Entering Stop ends the step without a check (R292). -/
theorem State.boundaryCheck_stop {s : State} (h : s.execState = .stop) : s.boundaryCheck = .next s := if_pos h

/-- Otherwise the step ends with the check of R305. -/
theorem State.boundaryCheck_of_ne_stop {s : State} (h : s.execState ≠ .stop) : s.boundaryCheck = s.interruptCheck := if_neg h

/-- A step in Normal state ends as it is, or it takes the lowest-numbered pending source outside Stop. -/
theorem State.boundaryCheck_cases (s : State) :
    s.boundaryCheck = .next s ∨
      ∃ i, s.execState ≠ .stop ∧ s.ime = true ∧ lowestSource s.pend = some i ∧ s.boundaryCheck = s.takeInterrupt i := by
  by_cases h : s.execState = .stop
  · exact .inl (s.boundaryCheck_stop h)
  · rw [s.boundaryCheck_of_ne_stop h]
    exact s.interruptCheck_cases.imp_right fun ⟨i, hi⟩ => ⟨i, h, hi⟩

/-! ## The audio catch-up -/

/-- The loop of R358 does some number of turns. -/
theorem State.apuLoop_induct (P : State → Prop) (hturn : ∀ s, P s → s.apuNext ≤ s.cycles → P s.apuTurn) (s : State) (fuel : Nat)
    (h : P s) : P (s.apuLoop fuel) := by
  induction fuel generalizing s with
  | zero => exact h
  | succ n ih =>
    unfold State.apuLoop
    split
    · exact ih _ (hturn s h (by assumption))
    · exact h

/-- The loop ends with the next audio step ahead of the cycle counter, given a period of at least one tick and enough fuel. -/
theorem State.apuLoop_due (s : State) (fuel : Nat) (hp : 0 < s.params.apuStepPeriod) (hf : s.cycles + 1 - s.apuNext ≤ fuel) :
    (s.apuLoop fuel).cycles < (s.apuLoop fuel).apuNext := by
  induction fuel generalizing s with
  | zero =>
    unfold State.apuLoop
    omega
  | succ n ih =>
    unfold State.apuLoop
    split
    · refine ih s.apuTurn (by simpa using hp) ?_
      simp
      omega
    · omega

/-- After the catch-up no audio step is due (R358). -/
theorem State.apuCatchUp_due (s : State) (hp : 0 < s.params.apuStepPeriod) : s.apuCatchUp.cycles < s.apuCatchUp.apuNext :=
  s.apuLoop_due _ hp (le_refl _)

end Sys2Proof.Machine
end

