-- ==== Sys2Proof/Laws/Exec.lean ====
section
/-! SUPPORT. The meaning of a whole family at once: for the instruction that `Form.<family>` names, exec is the family's shared operation with
those operands. A claim about a family rewrites with its lemma and never splits over the rows again. Beside them, what a state that differs
from another in registers only has in common with it. -/

namespace Sys2Proof.Machine

/-! ## One lemma for each family of rows -/

theorem exec_ldRegReg (dst src : Reg8) (s : State) : exec (Form.ldRegReg dst src) s = loadRegReg dst src s := by
  cases dst <;> cases src <;> rfl

theorem exec_ldRegAtHl (dst : Reg8) (s : State) : exec (Form.ldRegAtHl dst) s = loadRegAtHl dst s := by
  cases dst <;> rfl

theorem exec_ldAtHlReg (src : Reg8) (s : State) : exec (Form.ldAtHlReg src) s = storeAtHlReg src s := by
  cases src <;> rfl

theorem exec_ldN8 (t : Operand) (n : Byte) (s : State) : exec (Form.ldN8 t n) s = loadImm t n s := by
  rcases t with r | _
  · cases r <;> rfl
  · rfl

theorem exec_ldPointerA (p : Pointer) (s : State) : exec (Form.ldPointerA p) s = storePointerA p s := by
  cases p <;> rfl

theorem exec_ldAPointer (p : Pointer) (s : State) : exec (Form.ldAPointer p) s = loadAPointer p s := by
  cases p <;> rfl

theorem exec_ldRrN16 (rr : Reg16) (n : Addr) (s : State) : exec (Form.ldRrN16 rr n) s = loadPair rr n s := by
  cases rr <;> rfl

theorem exec_addHlRr (rr : Reg16) (s : State) : exec (Form.addHlRr rr) s = addHl rr s := by
  cases rr <;> rfl

theorem exec_incRr (rr : Reg16) (s : State) : exec (Form.incRr rr) s = incPair rr s := by
  cases rr <;> rfl

theorem exec_decRr (rr : Reg16) (s : State) : exec (Form.decRr rr) s = decPair rr s := by
  cases rr <;> rfl

theorem exec_push (rr : StackReg) (s : State) : exec (Form.push rr) s = pushPair rr s := by
  cases rr <;> rfl

theorem exec_pop (rr : StackReg) (s : State) : exec (Form.pop rr) s = popPair rr s := by
  cases rr <;> rfl

theorem exec_inc (t : Operand) (s : State) : exec (Form.inc t) s = incOperand t s := by
  rcases t with r | _
  · cases r <;> rfl
  · rfl

theorem exec_dec (t : Operand) (s : State) : exec (Form.dec t) s = decOperand t s := by
  rcases t with r | _
  · cases r <;> rfl
  · rfl

theorem exec_alu (o : AluOp) (t : Operand) (s : State) : exec (Form.alu o t) s = aluOperand o t s := by
  rcases t with r | _
  · cases o <;> cases r <;> rfl
  · cases o <;> rfl

theorem exec_aluN8 (o : AluOp) (n : Byte) (s : State) : exec (Form.aluN8 o n) s = aluImm o n s := by
  cases o <;> rfl

theorem exec_jrCc (k : Cond) (e : Byte) (s : State) : exec (Form.jrCc k e) s = jumpRelativeIf k e s := by
  cases k <;> rfl

theorem exec_jpCc (k : Cond) (n : Addr) (s : State) : exec (Form.jpCc k n) s = jumpIf k n s := by
  cases k <;> rfl

theorem exec_callCc (k : Cond) (n : Addr) (s : State) : exec (Form.callCc k n) s = callIf k n s := by
  cases k <;> rfl

theorem exec_retCc (k : Cond) (s : State) : exec (Form.retCc k) s = returnIf k s := by
  cases k <;> rfl

theorem exec_rst (y : Fin 8) (s : State) : exec (Form.rst y) s = restart y s := by
  fin_cases y <;> rfl

theorem exec_rot (o : RotOp) (t : Operand) (s : State) : exec (Form.rot o t) s = rotateOperand o t s := by
  rcases t with r | _
  · cases o <;> cases r <;> rfl
  · cases o <;> rfl

theorem exec_bit (b : Fin 8) (t : Operand) (s : State) : exec (Form.bit b t) s = testBit b t s := by
  rcases t with r | _
  · fin_cases b <;> cases r <;> rfl
  · fin_cases b <;> rfl

theorem exec_res (b : Fin 8) (t : Operand) (s : State) : exec (Form.res b t) s = resetBit b t s := by
  rcases t with r | _
  · fin_cases b <;> cases r <;> rfl
  · fin_cases b <;> rfl

theorem exec_set (b : Fin 8) (t : Operand) (s : State) : exec (Form.set b t) s = setBit b t s := by
  rcases t with r | _
  · fin_cases b <;> cases r <;> rfl
  · fin_cases b <;> rfl

/-! ## Frames -/

/-- A state with the same control state and the same stores reads the same everywhere. -/
theorem State.quiet_of {s t : State} (hc : s.ControlSame t) (hs : s.StoresSame t) : s.Quiet t :=
  ⟨hc, hs, State.read8_congr hs hc.params⟩

/-- An operand in a register is written without touching memory. -/
@[simp] theorem State.writeOperand_reg (s : State) (r : Reg8) (v : Byte) :
    s.writeOperand (.reg r) v = .next (s.setReg8 r v) := rfl

@[simp] theorem State.writeOperand_atHl (s : State) (v : Byte) : s.writeOperand .atHl v = s.write8 s.hl v := rfl

@[simp] theorem State.readOperand_reg (s : State) (r : Reg8) : s.readOperand (.reg r) = s.reg8 r := rfl

@[simp] theorem State.readOperand_atHl (s : State) : s.readOperand .atHl = s.read8 s.hl := rfl

@[simp] theorem operandCost_reg (r : Reg8) (m n : Nat) : operandCost (.reg r) m n = m := rfl

@[simp] theorem operandCost_atHl (m n : Nat) : operandCost .atHl m n = n := rfl

/-- The one write of an instruction whose effect and cost are `write8` then a tick: it completes, and what it leaves is the store
with the instruction's own registers. -/
theorem State.write8_thenTick_of_ok {u : State} {addr : Addr} {v : Byte} (cost : Nat) (h : u.writeFaults addr v = false) :
    (u.write8 addr v).thenTick cost = .next ((u.store8 addr v).tick cost) := by
  rw [write8_of_ok h, Result.thenTick_next]

end Sys2Proof.Machine
end

