-- ==== Sys2Proof/Tests/Slice0.lean ====
section
/-! SUPPORT. Tests. The bytes of the decode tests are written out from the encoding rules of spec/30_encoding.md; the expected values of the step
tests are those of spec/95_test_vectors.md; a witness theorem shows states and operands that meet the hypotheses of the statement it
is named after. -/

namespace Sys2Proof.Tests

open Sys2Proof.Machine

/-- The start of the vectors of spec/95_test_vectors.md: the reset registers, PC = 0xC000, the bytes in work RAM there. -/
def boot (bytes : List Byte) : State :=
  { State.reset with pc := 0xC000, wram := Memory.ofBytes .wram 0 bytes }

/-- The step completed in a state of which `p` holds. -/
def ends (r : Result) (p : State → Bool) : Bool :=
  match r with
  | .next t => p t
  | .fault _ => false
  | .refused _ => false

/-- The step stopped with this fault. -/
def faults (r : Result) (f : Fault) : Bool :=
  match r with
  | .next _ => false
  | .fault g => decide (g = f)
  | .refused _ => false

/-- Bytes written to the address space, one after the other. -/
def writes (s : State) (l : List (Addr × Byte)) : State :=
  l.foldl (fun u x => u.store8 x.1 x.2) s

/-- `n` audio steps. -/
def audio (n : Nat) (s : State) : Apu :=
  Nat.iterate Apu.step n s.apu

/-- The reset state with an MBC1 cartridge of eight banks and 8KB of RAM. -/
def mbc1 : State :=
  { State.reset with cart := { Cart.reset with kind := .mbc1, romBanks := 8, ramSize := 0x2000 } }

/-! ## WellFormed refuses the eleven unassigned rows (R133) -/

theorem test_wellFormed_refuses_D3 : ¬Instr.illegalD3.WellFormed := by decide
theorem test_wellFormed_refuses_DB : ¬Instr.illegalDB.WellFormed := by decide
theorem test_wellFormed_refuses_DD : ¬Instr.illegalDD.WellFormed := by decide
theorem test_wellFormed_refuses_E3 : ¬Instr.illegalE3.WellFormed := by decide
theorem test_wellFormed_refuses_E4 : ¬Instr.illegalE4.WellFormed := by decide
theorem test_wellFormed_refuses_EB : ¬Instr.illegalEB.WellFormed := by decide
theorem test_wellFormed_refuses_EC : ¬Instr.illegalEC.WellFormed := by decide
theorem test_wellFormed_refuses_ED : ¬Instr.illegalED.WellFormed := by decide
theorem test_wellFormed_refuses_F4 : ¬Instr.illegalF4.WellFormed := by decide
theorem test_wellFormed_refuses_FC : ¬Instr.illegalFC.WellFormed := by decide
theorem test_wellFormed_refuses_FD : ¬Instr.illegalFD.WellFormed := by decide
theorem test_wellFormed_accepts : (Instr.stop 0xFF).WellFormed ∧ (Instr.jpN16 0xD3D3).WellFormed ∧ Instr.set7A.WellFormed := by decide

/-! ## Words written out bit by bit (R126 to R138) -/

/-- `x = 01, y = 111 (A), z = 010 (D)`: LD A,D. -/
theorem test_decode_ld_a_d : decode [0b01111010] = .ok (.ldAD, []) := by decide

/-- `x = 11, y = 110, z = 000`, then n8: LDH A,(n8). -/
theorem test_decode_ldh_a_n8 : decode [0b11110000, 0x44, 0xAA] = .ok (.ldhAAtN8 0x44, [0xAA]) := by decide

/-- `x = 00, p = 11 (SP), q = 0, z = 001`, then the low byte and the high byte: LD SP,n16. -/
theorem test_decode_ld_sp_n16 : decode [0b00110001, 0xFE, 0xDF] = .ok (.ldSpN16 0xDFFE, []) := by decide

/-- `x = 11, p = 01 (DE), q = 0, z = 001`: POP DE. -/
theorem test_decode_pop_de : decode [0b11010001] = .ok (.popDe, []) := by decide

/-- `x = 10, y = 010 (SUB), z = 011 (E)`: SUB E. -/
theorem test_decode_sub_a_e : decode [0b10010011] = .ok (.subE, []) := by decide

/-- `x = 11, y = 111 (CP), z = 110`, then n8: CP n8. -/
theorem test_decode_cp_a_n8 : decode [0b11111110, 0x90] = .ok (.cpN8 0x90, []) := by decide

/-- `x = 00, p = 10 (HL), q = 1, z = 001`: ADD HL,HL. -/
theorem test_decode_add_hl_hl : decode [0b00101001] = .ok (.addHlHl, []) := by decide

/-- The prefix, then `x = 00, y = 110 (SWAP), z = 110 ((HL))`: SWAP (HL). -/
theorem test_decode_swap_at_hl : decode [0b11001011, 0b00110110] = .ok (.swapAtHl, []) := by decide

/-- The prefix, then `x = 10, y = 101, z = 111 (A)`: RES 5,A. -/
theorem test_decode_res_5_a : decode [0b11001011, 0b10101111] = .ok (.res5A, []) := by decide

/-- `x = 00, y = 111 (1, cc = 11), z = 000`, then e8: JR C,e8. -/
theorem test_decode_jr_c_e8 : decode [0b00111000, 0x80] = .ok (.jrCE8 0x80, []) := by decide

/-- `x = 11, cc = 10 (NC), z = 010`, then n16: JP NC,n16. -/
theorem test_decode_jp_nc_n16 : decode [0b11010010, 0x00, 0x80] = .ok (.jpNcN16 0x8000, []) := by decide

/-- `x = 11, y = 110, z = 011`: DI. -/
theorem test_decode_di : decode [0b11110011] = .ok (.di, []) := by decide

/-- An instruction whose bytes are not all there is rejected by name. -/
theorem test_decode_rejects_truncated :
    decode [0b11001101, 0x34] = .error (.truncated 0xCD) ∧ decode [0xCB] = .error (.truncated 0xCB) ∧ decode [] = .error .empty := by
  decide

/-- The table's number of a prefixed row: the prefix in the high byte (R136). -/
theorem test_decodeTableWord : decodeTableWord 16 0xCB7C = some .bit7H ∧ decodeTableWord 8 0x3E = some (.ldAN8 0) := by decide

/-! ## One step (spec/95_test_vectors.md, 2.1 to 2.6) -/

theorem test_step_ld_b_c :
    ends (step ({ boot [0x41] with c := 0x5A }))
      (fun t => t.b = 0x5A ∧ t.pc = 0xC001 ∧ t.cycles = 4) = true := by decide

theorem test_step_ld_d_n8 :
    ends (step (boot [0x16, 0x7F]))
      (fun t => t.d = 0x7F ∧ t.pc = 0xC002 ∧ t.cycles = 8) = true := by decide

theorem test_step_ld_a_at_hl :
    ends (step ((({ boot [0x7E] with h := 0xC1, l := 0x00 } : State).poke 0xC100 0x3C)))
      (fun t => t.a = 0x3C ∧ t.cycles = 8) = true := by decide

theorem test_step_ld_at_hl_e :
    ends (step ({ boot [0x73] with h := 0xC1, l := 0x00, e := 0x99 }))
      (fun t => t.cycles = 8 ∧ t.read8 0xC100 = 0x99) = true := by decide

theorem test_step_ld_at_hl_n8_through_the_echo :
    ends (step ({ boot [0x36, 0xA5] with h := 0xE0, l := 0x10 }))
      (fun t => t.pc = 0xC002 ∧ t.cycles = 12 ∧ t.read8 0xC010 = 0xA5 ∧ t.read8 0xE010 = 0xA5) = true := by decide

theorem test_step_ld_a_at_bc :
    ends (step ((({ boot [0x0A] with b := 0xC2, c := 0x00 } : State).poke 0xC200 0x11)))
      (fun t => t.a = 0x11 ∧ t.cycles = 8) = true := by decide

theorem test_step_ld_at_de_a_in_the_gap :
    ends (step ({ boot [0x12] with d := 0xFE, e := 0xA0, a := 0x77 }))
      (fun t => t.cycles = 8 ∧ t.read8 0xFEA0 = 0xFF) = true := by decide

theorem test_step_ld_a_at_n16 :
    ends (step (((boot [0xFA, 0x34, 0xC2] : State).poke 0xC234 0xEE)))
      (fun t => t.a = 0xEE ∧ t.pc = 0xC003 ∧ t.cycles = 16) = true := by decide

theorem test_step_ld_at_n16_a :
    ends (step ({ boot [0xEA, 0x00, 0xFE] with a := 0x42 }))
      (fun t => t.cycles = 16 ∧ t.read8 0xFE00 = 0x42) = true := by decide

theorem test_step_ldh_at_n8_a_sets_if :
    ends (step ({ boot [0xE0, 0x0F] with a := 0xFF }))
      (fun t => t.cycles = 12 ∧ t.read8 0xFF0F = 0xFF) = true := by decide

theorem test_step_ldh_a_at_n8_reads_p1 :
    ends (step ({ boot [0xF0, 0x00] with a := 0x00 }))
      (fun t => t.a = 0xCF ∧ t.cycles = 12) = true := by decide

theorem test_step_ldh_at_c_a :
    ends (step ({ boot [0xE2] with c := 0x80, a := 0x5A }))
      (fun t => t.pc = 0xC001 ∧ t.cycles = 8 ∧ t.read8 0xFF80 = 0x5A) = true := by decide

theorem test_step_ldh_a_at_c_reads_ie :
    ends (step ({ boot [0xF2] with c := 0xFF, ie := 0xE5 }))
      (fun t => t.a = 0xE5 ∧ t.cycles = 8) = true := by decide

theorem test_step_ld_a_at_hl_inc_wraps :
    ends (step ({ boot [0x2A] with h := 0xFF, l := 0xFF, ie := 0x1F }))
      (fun t => t.a = 0x1F ∧ t.h = 0x00 ∧ t.l = 0x00 ∧ t.cycles = 8) = true := by decide

theorem test_step_ld_a_at_hl_dec :
    ends (step ({ boot [0x3A] with h := 0xC0, l := 0x00 }))
      (fun t => t.a = 0x3A ∧ t.h = 0xBF ∧ t.l = 0xFF ∧ t.cycles = 8) = true := by decide

theorem test_step_ld_at_hl_inc_a :
    ends (step ({ boot [0x22] with h := 0xC1, l := 0xFF, a := 0x01 }))
      (fun t => t.h = 0xC2 ∧ t.l = 0x00 ∧ t.cycles = 8 ∧ t.read8 0xC1FF = 0x01) = true := by decide

theorem test_step_ld_at_hl_dec_a :
    ends (step ({ boot [0x32] with h := 0x00, l := 0x00, a := 0x01 }))
      (fun t => t.h = 0xFF ∧ t.l = 0xFF ∧ t.cycles = 8) = true := by decide

theorem test_step_ld_sp_n16 :
    ends (step ({ boot [0x31, 0xFE, 0xFF] with sp := 0x0000 }))
      (fun t => t.sp = 0xFFFE ∧ t.pc = 0xC003 ∧ t.cycles = 12) = true := by decide

theorem test_step_ld_bc_n16 :
    ends (step (boot [0x01, 0x34, 0x12]))
      (fun t => t.b = 0x12 ∧ t.c = 0x34 ∧ t.cycles = 12) = true := by decide

theorem test_step_ld_at_n16_sp :
    ends (step ({ boot [0x08, 0x00, 0xC1] with sp := 0xFFF8 }))
      (fun t => t.cycles = 20 ∧ t.read8 0xC100 = 0xF8 ∧ t.read8 0xC101 = 0xFF) = true := by decide

theorem test_step_ld_sp_hl :
    ends (step ({ boot [0xF9] with h := 0xD0, l := 0x00 }))
      (fun t => t.sp = 0xD000 ∧ t.cycles = 8) = true := by decide

theorem test_step_ld_hl_sp_e8_wraps :
    ends (step ({ boot [0xF8, 0x08] with sp := 0xFFF8 }))
      (fun t => t.h = 0x00 ∧ t.l = 0x00 ∧ t.f = 0x30 ∧ t.cycles = 12) = true := by decide

theorem test_step_ld_hl_sp_minus_128 :
    ends (step ({ boot [0xF8, 0x80] with sp := 0xD080 }))
      (fun t => t.h = 0xD0 ∧ t.l = 0x00 ∧ t.f = 0x10 ∧ t.cycles = 12) = true := by decide

theorem test_step_push_af :
    ends (step ({ boot [0xF5] with a := 0x12, f := 0xF0, sp := 0xD000 }))
      (fun t => t.sp = 0xCFFE ∧ t.cycles = 16 ∧ t.read8 0xCFFF = 0x12 ∧ t.read8 0xCFFE = 0xF0) = true := by decide

theorem test_step_push_de_over_address_zero :
    ends (step ({ boot [0xD5] with d := 0xAB, e := 0xCD, sp := 0x0001 }))
      (fun t => t.ie = 0xCD ∧ t.sp = 0xFFFF ∧ t.cycles = 16) = true := by decide

theorem test_step_pop_af_drops_the_low_nibble :
    ends (step (((({ boot [0xF1] with sp := 0xD000 } : State).poke 0xD000 0xFF).poke 0xD001 0x12)))
      (fun t => t.a = 0x12 ∧ t.f = 0xF0 ∧ t.sp = 0xD002 ∧ t.cycles = 12) = true := by decide

theorem test_step_pop_hl_reads_ie :
    ends (step ((({ boot [0xE1] with sp := 0xFFFE, ie := 0x12 } : State).poke 0xFFFE 0x34)))
      (fun t => t.h = 0x12 ∧ t.l = 0x34 ∧ t.sp = 0x0000 ∧ t.cycles = 12) = true := by decide

theorem test_step_add_a_b :
    ends (step ({ boot [0x80] with a := 0x3A, b := 0xC6 }))
      (fun t => t.a = 0x00 ∧ t.f = 0xB0 ∧ t.cycles = 4) = true := by decide

theorem test_step_adc_a_n8 :
    ends (step ({ boot [0xCE, 0x00] with a := 0xFF, f := 0x10 }))
      (fun t => t.a = 0x00 ∧ t.f = 0xB0 ∧ t.cycles = 8) = true := by decide

theorem test_step_sub_a_at_hl :
    ends (step ((({ boot [0x96] with a := 0x3E, h := 0xC1, l := 0x00 } : State).poke 0xC100 0x40)))
      (fun t => t.a = 0xFE ∧ t.f = 0x50 ∧ t.cycles = 8) = true := by decide

theorem test_step_sbc_a_n8 :
    ends (step ({ boot [0xDE, 0xFF] with a := 0x00, f := 0x10 }))
      (fun t => t.a = 0x00 ∧ t.f = 0xF0 ∧ t.cycles = 8) = true := by decide

theorem test_step_and_a_l :
    ends (step ({ boot [0xA5] with a := 0x5A, l := 0x3F }))
      (fun t => t.a = 0x1A ∧ t.f = 0x20 ∧ t.cycles = 4) = true := by decide

theorem test_step_xor_a_n8 :
    ends (step ({ boot [0xEE, 0x0F] with a := 0xFF }))
      (fun t => t.a = 0xF0 ∧ t.f = 0x00 ∧ t.cycles = 8) = true := by decide

theorem test_step_or_a_at_hl :
    ends (step ((({ boot [0xB6] with a := 0x5A, h := 0xC1, l := 0x00 } : State).poke 0xC100 0x0F)))
      (fun t => t.a = 0x5F ∧ t.f = 0x00 ∧ t.cycles = 8) = true := by decide

theorem test_step_cp_a_n8 :
    ends (step ({ boot [0xFE, 0x40] with a := 0x3C, f := 0x00 }))
      (fun t => t.a = 0x3C ∧ t.f = 0x50 ∧ t.cycles = 8) = true := by decide

theorem test_step_inc_b_keeps_carry :
    ends (step ({ boot [0x04] with b := 0xFF, f := 0x10 }))
      (fun t => t.b = 0x00 ∧ t.f = 0xB0 ∧ t.cycles = 4) = true := by decide

theorem test_step_inc_at_hl :
    ends (step ((({ boot [0x34] with h := 0xC1, l := 0x00, f := 0xF0 } : State).poke 0xC100 0x50)))
      (fun t => t.f = 0x10 ∧ t.cycles = 12 ∧ t.read8 0xC100 = 0x51) = true := by decide

theorem test_step_dec_a_keeps_carry :
    ends (step ({ boot [0x3D] with a := 0x00, f := 0x10 }))
      (fun t => t.a = 0xFF ∧ t.f = 0x70 ∧ t.cycles = 4) = true := by decide

theorem test_step_dec_at_hl :
    ends (step ((({ boot [0x35] with h := 0xC1, l := 0x00, f := 0x00 } : State).poke 0xC100 0x10)))
      (fun t => t.f = 0x60 ∧ t.cycles = 12 ∧ t.read8 0xC100 = 0x0F) = true := by decide

theorem test_step_daa_after_addition :
    ends (step ({ boot [0x27] with a := 0x9A, f := 0x00 }))
      (fun t => t.a = 0x00 ∧ t.f = 0x90 ∧ t.cycles = 4) = true := by decide

theorem test_step_daa_after_subtraction :
    ends (step ({ boot [0x27] with a := 0xFA, f := 0x70 }))
      (fun t => t.a = 0x94 ∧ t.f = 0x50 ∧ t.cycles = 4) = true := by decide

theorem test_step_cpl :
    ends (step ({ boot [0x2F] with a := 0x35, f := 0x80 }))
      (fun t => t.a = 0xCA ∧ t.f = 0xE0 ∧ t.cycles = 4) = true := by decide

theorem test_step_scf :
    ends (step ({ boot [0x37] with f := 0xE0 }))
      (fun t => t.f = 0x90 ∧ t.cycles = 4) = true := by decide

theorem test_step_ccf :
    ends (step ({ boot [0x3F] with f := 0xF0 }))
      (fun t => t.f = 0x80 ∧ t.cycles = 4) = true := by decide

theorem test_step_add_hl_sp_keeps_z :
    ends (step ({ boot [0x39] with h := 0xFF, l := 0xFF, sp := 0x0001, f := 0x80 }))
      (fun t => t.h = 0x00 ∧ t.l = 0x00 ∧ t.f = 0xB0 ∧ t.cycles = 8) = true := by decide

theorem test_step_add_hl_bc :
    ends (step ({ boot [0x09] with h := 0x8A, l := 0x23, b := 0x06, c := 0x05, f := 0x80 }))
      (fun t => t.h = 0x90 ∧ t.l = 0x28 ∧ t.f = 0xA0 ∧ t.cycles = 8) = true := by decide

theorem test_step_inc_bc_sets_no_flag :
    ends (step ({ boot [0x03] with b := 0xFF, c := 0xFF, f := 0xF0 }))
      (fun t => t.b = 0x00 ∧ t.c = 0x00 ∧ t.f = 0xF0 ∧ t.cycles = 8) = true := by decide

theorem test_step_dec_sp :
    ends (step ({ boot [0x3B] with sp := 0x0000, f := 0x00 }))
      (fun t => t.sp = 0xFFFF ∧ t.f = 0x00 ∧ t.cycles = 8) = true := by decide

theorem test_step_add_sp_minus_one :
    ends (step ({ boot [0xE8, 0xFF] with sp := 0xD000, f := 0x00 }))
      (fun t => t.sp = 0xCFFF ∧ t.f = 0x00 ∧ t.cycles = 16) = true := by decide

theorem test_step_add_sp_127 :
    ends (step ({ boot [0xE8, 0x7F] with sp := 0x00FF }))
      (fun t => t.sp = 0x017E ∧ t.f = 0x30 ∧ t.cycles = 16) = true := by decide

theorem test_step_rlca_clears_z :
    ends (step ({ boot [0x07] with a := 0x00, f := 0xF0 }))
      (fun t => t.a = 0x00 ∧ t.f = 0x00 ∧ t.cycles = 4) = true := by decide

theorem test_step_rrca :
    ends (step ({ boot [0x0F] with a := 0x3B, f := 0x00 }))
      (fun t => t.a = 0x9D ∧ t.f = 0x10 ∧ t.cycles = 4) = true := by decide

theorem test_step_rla :
    ends (step ({ boot [0x17] with a := 0x95, f := 0x10 }))
      (fun t => t.a = 0x2B ∧ t.f = 0x10 ∧ t.cycles = 4) = true := by decide

theorem test_step_rra :
    ends (step ({ boot [0x1F] with a := 0x81, f := 0x00 }))
      (fun t => t.a = 0x40 ∧ t.f = 0x10 ∧ t.cycles = 4) = true := by decide

theorem test_step_rlc_b :
    ends (step ({ boot [0xCB, 0x00] with b := 0x85, f := 0x00 }))
      (fun t => t.b = 0x0B ∧ t.f = 0x10 ∧ t.pc = 0xC002 ∧ t.cycles = 8) = true := by decide

theorem test_step_rrc_c :
    ends (step ({ boot [0xCB, 0x09] with c := 0x01, f := 0x00 }))
      (fun t => t.c = 0x80 ∧ t.f = 0x10 ∧ t.cycles = 8) = true := by decide

theorem test_step_rl_l :
    ends (step ({ boot [0xCB, 0x15] with l := 0x80, f := 0x00 }))
      (fun t => t.l = 0x00 ∧ t.f = 0x90 ∧ t.cycles = 8) = true := by decide

theorem test_step_rr_at_hl :
    ends (step ((({ boot [0xCB, 0x1E] with h := 0xC1, l := 0x00, f := 0x10 } : State).poke 0xC100 0x8A)))
      (fun t => t.f = 0x00 ∧ t.cycles = 16 ∧ t.read8 0xC100 = 0xC5) = true := by decide

theorem test_step_sla_d :
    ends (step ({ boot [0xCB, 0x22] with d := 0x80, f := 0x00 }))
      (fun t => t.d = 0x00 ∧ t.f = 0x90 ∧ t.cycles = 8) = true := by decide

theorem test_step_sra_a_keeps_bit_7 :
    ends (step ({ boot [0xCB, 0x2F] with a := 0x8A, f := 0x00 }))
      (fun t => t.a = 0xC5 ∧ t.f = 0x00 ∧ t.cycles = 8) = true := by decide

theorem test_step_swap_a :
    ends (step ({ boot [0xCB, 0x37] with a := 0xF1, f := 0xF0 }))
      (fun t => t.a = 0x1F ∧ t.f = 0x00 ∧ t.cycles = 8) = true := by decide

theorem test_step_srl_h :
    ends (step ({ boot [0xCB, 0x3C] with h := 0xFF, f := 0x00 }))
      (fun t => t.h = 0x7F ∧ t.f = 0x10 ∧ t.cycles = 8) = true := by decide

theorem test_step_bit_0_at_hl :
    ends (step ((({ boot [0xCB, 0x46] with h := 0xC1, l := 0x00, f := 0x50 } : State).poke 0xC100 0xFE)))
      (fun t => t.f = 0xB0 ∧ t.cycles = 12 ∧ t.read8 0xC100 = 0xFE) = true := by decide

theorem test_step_bit_4_l :
    ends (step ({ boot [0xCB, 0x65] with l := 0xEF, f := 0x00 }))
      (fun t => t.f = 0xA0 ∧ t.cycles = 8) = true := by decide

theorem test_step_res_7_a :
    ends (step ({ boot [0xCB, 0xBF] with a := 0x80, f := 0xF0 }))
      (fun t => t.a = 0x00 ∧ t.f = 0xF0 ∧ t.cycles = 8) = true := by decide

theorem test_step_res_1_at_hl :
    ends (step ((({ boot [0xCB, 0x8E] with h := 0xC1, l := 0x00 } : State).poke 0xC100 0xFF)))
      (fun t => t.cycles = 16 ∧ t.read8 0xC100 = 0xFD) = true := by decide

theorem test_step_set_3_a :
    ends (step ({ boot [0xCB, 0xDF] with a := 0x80 }))
      (fun t => t.a = 0x88 ∧ t.cycles = 8) = true := by decide

theorem test_step_set_7_at_hl :
    ends (step ((({ boot [0xCB, 0xFE] with h := 0xC1, l := 0x00 } : State).poke 0xC100 0x00)))
      (fun t => t.cycles = 16 ∧ t.read8 0xC100 = 0x80) = true := by decide

theorem test_step_jp_n16 :
    ends (step (boot [0xC3, 0x00, 0x80]))
      (fun t => t.pc = 0x8000 ∧ t.cycles = 16) = true := by decide

theorem test_step_jp_z_n16_not_taken :
    ends (step ({ boot [0xCA, 0x00, 0x80] with f := 0x00 }))
      (fun t => t.pc = 0xC003 ∧ t.cycles = 12) = true := by decide

theorem test_step_jp_hl :
    ends (step ({ boot [0xE9] with h := 0x80, l := 0x00 }))
      (fun t => t.pc = 0x8000 ∧ t.cycles = 4) = true := by decide

theorem test_step_jr_minus_128 :
    ends (step (boot [0x18, 0x80]))
      (fun t => t.pc = 0xBF82 ∧ t.cycles = 12) = true := by decide

theorem test_step_jr_nz_e8_not_taken :
    ends (step ({ boot [0x20, 0x03] with f := 0x80 }))
      (fun t => t.pc = 0xC002 ∧ t.cycles = 8) = true := by decide

theorem test_step_call_n16 :
    ends (step ({ boot [0xCD, 0x34, 0x12] with sp := 0xD000 }))
      (fun t => t.pc = 0x1234 ∧ t.sp = 0xCFFE ∧ t.cycles = 24 ∧ t.read8 0xCFFF = 0xC0 ∧ t.read8 0xCFFE = 0x03) = true := by decide

theorem test_step_call_nc_n16_not_taken :
    ends (step ({ boot [0xD4, 0x34, 0x12] with sp := 0xD000, f := 0x10 }))
      (fun t => t.pc = 0xC003 ∧ t.sp = 0xD000 ∧ t.cycles = 12) = true := by decide

theorem test_step_ret :
    ends (step (((({ boot [0xC9] with sp := 0xCFFE } : State).poke 0xCFFE 0x03).poke 0xCFFF 0x80)))
      (fun t => t.pc = 0x8003 ∧ t.sp = 0xD000 ∧ t.cycles = 16) = true := by decide

theorem test_step_ret_z_taken :
    ends (step (((({ boot [0xC8] with sp := 0xCFFE, f := 0x80 } : State).poke 0xCFFE 0x03).poke 0xCFFF 0x80)))
      (fun t => t.pc = 0x8003 ∧ t.sp = 0xD000 ∧ t.cycles = 20) = true := by decide

theorem test_step_ret_z_not_taken :
    ends (step (((({ boot [0xC8] with sp := 0xCFFE, f := 0x00 } : State).poke 0xCFFE 0x03).poke 0xCFFF 0x80)))
      (fun t => t.pc = 0xC001 ∧ t.sp = 0xCFFE ∧ t.cycles = 8) = true := by decide

theorem test_step_rst_28 :
    ends (step ({ boot [0xEF] with sp := 0xD000 }))
      (fun t => t.pc = 0x0028 ∧ t.sp = 0xCFFE ∧ t.cycles = 16 ∧ t.read8 0xCFFF = 0xC0 ∧ t.read8 0xCFFE = 0x01) = true := by decide

/-! ## Interrupts, HALT, STOP (spec/95_test_vectors.md, 2.7) -/

/-- V1, first step. -/
theorem test_step_ei_delays :
    ends (step ({ boot [0xFB, 0x00] with ie := 0x01, iflags := 1 }))
      (fun t => t.pc = 0xC001 ∧ t.ime = false ∧ t.eiPending = true ∧ t.cycles = 4) = true := by decide

/-- V1, second step. -/
theorem test_step_nop_after_ei_dispatches :
    ends (step ({ boot [0xFB, 0x00] with pc := 0xC001, sp := 0xD000, eiPending := true, ie := 0x01, iflags := 1, cycles := 4 }))
      (fun t => t.pc = 0x0040 ∧ t.sp = 0xCFFE ∧ t.read8 0xCFFF = 0xC0 ∧ t.read8 0xCFFE = 0x02 ∧ t.ime = false ∧ t.iflags = 0 ∧
        t.cycles = 28) = true := by decide

/-- V2, second step. -/
theorem test_step_di_after_ei_closes_the_window :
    ends (step ({ boot [0xFB, 0xF3] with pc := 0xC001, eiPending := true, ie := 0x01, iflags := 1, cycles := 4 }))
      (fun t => t.pc = 0xC002 ∧ t.ime = false ∧ t.eiPending = false ∧ t.iflags = 1 ∧ t.cycles = 8) = true := by decide

/-- V3, first step. -/
theorem test_step_halt_resumes_when_pending :
    ends (step ({ boot [0x76, 0x04] with ie := 0x01, iflags := 1 }))
      (fun t => t.execState = .normal ∧ t.pc = 0xC001 ∧ t.cycles = 4 ∧ t.iflags = 1) = true := by decide

/-- V4, third step: the press wakes the machine, nothing is dispatched. -/
theorem test_step_press_wakes_halt :
    ends (step ({ boot [0x76, 0x04] with pc := 0xC001, execState := .halt, ie := 0x10, cycles := 8, schedule := [[.press .right]] }))
      (fun t => t.execState = .normal ∧ t.pc = 0xC001 ∧ t.read8 0xFF00 = 0xCE ∧ t.iflags = 0x10 ∧ t.cycles = 12 ∧
        t.schedule = []) = true := by decide

/-- V5. -/
theorem test_step_nop_dispatches_lowest_source :
    ends (step ({ boot [0x00] with sp := 0xD000, ime := true, ie := 0x1F, iflags := 0b10100 }))
      (fun t => t.pc = 0x0050 ∧ t.iflags = 0b10000 ∧ t.ime = false ∧ t.read8 0xCFFF = 0xC0 ∧ t.read8 0xCFFE = 0x01 ∧
        t.cycles = 24) = true := by decide

/-- V7, first step. -/
theorem test_step_stop :
    ends (step ({ boot [0x10, 0x00, 0x04] with ie := 0x1F, iflags := 0x1F }))
      (fun t => t.execState = .stop ∧ t.pc = 0xC002 ∧ t.cycles = 4) = true := by decide

/-- R292, R315: with IME set and a source pending the STOP step dispatches nothing and the request stays in IF. -/
theorem test_step_stop_dispatches_nothing :
    ends (step ({ boot [0x10, 0x00, 0x04] with ime := true, ie := 0x1F, iflags := 0x1F }))
      (fun t => t.execState = .stop ∧ t.pc = 0xC002 ∧ t.ime = true ∧ t.iflags = 0x1F ∧ t.cycles = 4) = true := by decide

/-- V7, second step: a pending interrupt does not wake it. -/
theorem test_step_stop_ignores_interrupts :
    ends (step ({ boot [] with execState := .stop, ie := 0x1F, iflags := 0x1F, ime := true, cycles := 4 }))
      (fun t => t.execState = .stop ∧ t.pc = 0xC000 ∧ t.cycles = 8) = true := by decide

/-- V8. -/
theorem test_step_reti_dispatches_at_once :
    ends (step (({ boot [0xD9] with sp := 0xCFFE, ie := 0x05, iflags := 0x04 } : State).pokeList 0xCFFE [0x34, 0x12]))
      (fun t => t.pc = 0x0050 ∧ t.ime = false ∧ t.iflags = 0 ∧ t.sp = 0xCFFE ∧ t.read8 0xCFFF = 0x12 ∧ t.read8 0xCFFE = 0x34 ∧
        t.cycles = 36) = true := by decide

/-- V12. -/
theorem test_step_unassigned_faults : faults (step (boot [0xD3])) (.illegalOpcode 0xD3 0xC000) = true := by decide

/-- R291 under HALT_PENDING_IME0 = bug: the byte after HALT is fetched twice, so INC B runs and PC stays on it. -/
theorem test_step_halt_bug :
    ends (step ({ boot [0x76, 0x04] with pc := 0xC001, haltBug := true }))
      (fun t => t.b = 0x01 ∧ t.pc = 0xC001 ∧ t.haltBug = false) = true := by decide

/-! ## Memory and cartridge (spec/95_test_vectors.md, S2, 2.8) -/

/-- M3, M4. -/
theorem test_write_if_and_p1 :
    (State.reset.store8 0xFF0F 0xFF).read8 0xFF0F = 0xFF ∧ (State.reset.store8 0xFF0F 0x00).read8 0xFF0F = 0xE0 ∧
      (State.reset.store8 0xFF00 0x00).read8 0xFF00 = 0xCF ∧ (State.reset.store8 0xFF00 0xFF).read8 0xFF00 = 0xFF := by decide

/-- S2: the eight writes of the table. -/
theorem test_mbc1_bank_select :
    ([0x00, 0x01, 0x1F, 0x20, 0x3F, 0x40, 0xE5, 0xFF] : List Byte).map (fun v => (mbc1.store8 0x2000 v).cart.romBank.toNat) =
      [1, 1, 31, 1, 31, 1, 5, 31] := by decide

/-- M9. -/
theorem test_mbc1_ram_needs_enable :
    mbc1.read8 0xA000 = 0xFF ∧
      (writes mbc1 [(0xA000, 0x11), (0x0000, 0x0A), (0xA000, 0x22), (0xBFFF, 0x33)]).read8 0xA000 = 0x22 ∧
      (writes mbc1 [(0xA000, 0x11), (0x0000, 0x0A), (0xA000, 0x22), (0xBFFF, 0x33)]).read8 0xBFFF = 0x33 := by decide

/-- M12. -/
theorem test_mbc1_mode_select_faults :
    faults (mbc1.write8 0x7FFF 0x01) (.unsupportedMbc1Mode 0x7FFF 0x01) = true ∧ mbc1.store8 0x6000 0x00 = mbc1 := by decide

/-- M14, an image of a length that R90 does not admit. -/
theorem test_load_refuses_short_image : Cart.load [0x00, 0xC3] [] = .error .malformedRomImage := by decide

/-! ## Audio unit (spec/95_test_vectors.md, S3 to S5, 2.9) -/

/-- A1 and S4: NR52 before and after the power-off. -/
theorem test_audio_power_off :
    State.reset.read8 0xFF26 = 0xF1 ∧ (State.reset.store8 0xFF26 0x00).read8 0xFF26 = 0x70 ∧
      (State.reset.store8 0xFF26 0x00).read8 0xFF11 = 0x3F ∧
      (writes State.reset [(0xFF26, 0x00), (0xFF12, 0xF0), (0xFF14, 0x80), (0xFF26, 0x80)]).read8 0xFF26 = 0xF0 := by decide

/-- S5. -/
theorem test_audio_trigger_without_dac :
    (writes State.reset [(0xFF12, 0x07), (0xFF14, 0x80)]).read8 0xFF26 = 0xF0 ∧
      (writes State.reset [(0xFF12, 0x08), (0xFF14, 0x80)]).read8 0xFF26 = 0xF1 := by decide

/-- A7. -/
theorem test_audio_sweep_overflow_at_trigger :
    (writes State.reset [(0xFF10, 0x11), (0xFF13, 0xFF), (0xFF14, 0x87)]).read8 0xFF26 = 0xF0 := by decide

/-- A8, step 2. -/
theorem test_audio_sweep_step :
    (audio 2 (writes State.reset [(0xFF10, 0x12), (0xFF13, 0x00), (0xFF14, 0x84)])).sweep.freq = 0x500 ∧
      (audio 2 (writes State.reset [(0xFF10, 0x12), (0xFF13, 0x00), (0xFF14, 0x84)])).reg 0x04 = 0x85 := by decide

/-- A12, the trigger and step 2. -/
theorem test_audio_length_reload :
    (writes State.reset [(0xFF17, 0xF0), (0xFF19, 0xC0)]).apu.len2 = 63 ∧
      (audio 2 (writes State.reset [(0xFF17, 0xF0), (0xFF19, 0xC0)])).on2 = false := by decide

/-- S3, step 7. -/
theorem test_audio_envelope :
    (audio 7 (writes State.reset [(0xFF12, 0xE9), (0xFF14, 0x80)])).env1 = ⟨1, 1, true, 15⟩ := by decide

/-! ## Witnesses: states and operands that meet the hypotheses of the statements -/

theorem test_witness_StepRunsTheDecodedInstruction :
    ∃ (s u : State) (i : Instr) (rest : List Byte), u = s.takeHostMoves ∧ u.execState = .normal ∧
      decode [u.read8 u.pc, u.read8 (if u.haltBug then u.pc else u.pc + 1),
        u.read8 ((if u.haltBug then u.pc else u.pc + 1) + 1)] = .ok (i, rest) :=
  ⟨{ boot [0xC3, 0x00, 0x80] with schedule := [[.press .a, .requestInterrupt 0]] }, _, .jpN16 0x8000, [], rfl, by decide, by decide⟩

/-- The same with the halt bug pending: the first byte is fetched twice. -/
theorem test_witness_StepRunsTheDecodedInstruction_haltBug :
    ∃ (s u : State) (i : Instr) (rest : List Byte), u = s.takeHostMoves ∧ u.execState = .normal ∧ u.haltBug = true ∧
      decode [u.read8 u.pc, u.read8 (if u.haltBug then u.pc else u.pc + 1),
        u.read8 ((if u.haltBug then u.pc else u.pc + 1) + 1)] = .ok (i, rest) :=
  ⟨{ boot [0x06, 0x04] with haltBug := true }, _, .ldBN8 0x06, [0x04], rfl, by decide, by decide, by decide⟩

/-- Halt with nothing and with something pending, Stop with every line high and with one low, after the host moves. -/
theorem test_witness_StepRunsTheDecodedInstruction_idle :
    (let u := ({ boot [] with execState := .halt, ie := 0x01, schedule := [[.press .a]] } : State).takeHostMoves;
      u.execState = .halt ∧ u.ie.extractLsb' 0 5 &&& u.iflags = 0) ∧
    (let u := ({ boot [] with execState := .halt, ie := 0x10, schedule := [[.press .a]] } : State).takeHostMoves;
      u.execState = .halt ∧ u.ie.extractLsb' 0 5 &&& u.iflags ≠ 0) ∧
    (let u := ({ boot [] with execState := .stop, schedule := [[.press .a, .release .a]] } : State).takeHostMoves;
      u.execState = .stop ∧ u.p1.extractLsb' 0 4 = 0xF) ∧
    (let u := ({ boot [] with execState := .stop, schedule := [[.press .down]] } : State).takeHostMoves;
      u.execState = .stop ∧ u.p1.extractLsb' 0 4 ≠ 0xF) := by decide

theorem test_witness_IdleStatesWaitForTheirEvents_halt_idle :
    let s : State := { boot [] with execState := .halt, ie := 0xF0, iflags := 0x0F };
    s.execState = .halt ∧ s.ie.extractLsb' 0 5 &&& s.iflags = 0 := by decide

theorem test_witness_IdleStatesWaitForTheirEvents_halt_wakes :
    let s : State := { boot [] with execState := .halt, ie := 0x10, iflags := 0x10 };
    s.execState = .halt ∧ s.ie.extractLsb' 0 5 &&& s.iflags ≠ 0 ∧ s.ime = false := by decide

/-- The highest source alone, and the lowest with all others pending: the hypotheses on the source `i` here and in
CheckTakesTheLowestPendingSource. -/
theorem test_witness_IdleStatesWaitForTheirEvents_halt_dispatches :
    (let s : State := { boot [] with execState := .halt, ime := true, ie := 0x10, iflags := 0x1F };
      s.execState = .halt ∧ s.ime = true ∧ s.ie.getLsbD 4 = true ∧ s.iflags.getLsbD 4 = true ∧
      ∀ j : Fin 5, j < 4 → ¬(s.ie.getLsbD j = true ∧ s.iflags.getLsbD j = true)) ∧
    (let s : State := { boot [] with execState := .halt, ime := true, ie := 0xFF, iflags := 0x1F };
      s.execState = .halt ∧ s.ime = true ∧ s.ie.getLsbD 0 = true ∧ s.iflags.getLsbD 0 = true ∧
      ∀ j : Fin 5, j < 0 → ¬(s.ie.getLsbD j = true ∧ s.iflags.getLsbD j = true)) := by decide

theorem test_witness_IdleStatesWaitForTheirEvents_stop :
    (let s : State := { boot [] with execState := .stop };
      s.execState = .stop ∧ ∀ k : Fin 4, s.p1.getLsbD k = true) ∧
    (let s : State := ({ boot [] with execState := .stop } : State).press .start;
      s.execState = .stop ∧ ∃ k : Fin 4, s.p1.getLsbD k = false) := by decide

theorem test_witness_CheckTakesTheLowestPendingSource :
    (boot []).ime = false ∧
    (let s : State := { boot [] with ime := true, ie := 0xE0, iflags := 0x1F };
      s.ime = true ∧ ∀ j : Fin 5, ¬(s.ie.getLsbD j = true ∧ s.iflags.getLsbD j = true)) ∧
    (let s : State := { boot [] with ime := true, ie := 0x14, iflags := 0x1F };
      s.ime = true ∧ s.ie.getLsbD 2 = true ∧ s.iflags.getLsbD 2 = true ∧
      ∀ j : Fin 5, j < 2 → ¬(s.ie.getLsbD j = true ∧ s.iflags.getLsbD j = true)) := by decide

/-- In work RAM, with SP wrapping below zero, and on MBC1 with SP in the mode-select window and even bytes. -/
theorem test_witness_DispatchPushesPcAndJumpsToTheVector :
    (let s : State := { boot [] with sp := 0xD000 }; s.TwoWritesOk (s.sp - 1) (hiByte s.pc) (s.sp - 2) (loByte s.pc)) ∧
    (let s : State := { boot [] with sp := 0x0001 }; s.TwoWritesOk (s.sp - 1) (hiByte s.pc) (s.sp - 2) (loByte s.pc)) ∧
    (let s : State := { mbc1 with pc := 0xC002, sp := 0x8000 };
      s.TwoWritesOk (s.sp - 1) (hiByte s.pc) (s.sp - 2) (loByte s.pc)) := by
  unfold State.TwoWritesOk; decide

theorem test_witness_EnableIsDelayedAndDisableIsNot :
    (let s := boot [0xFB]; s.execState = .normal ∧ s.haltBug = false ∧ s.read8 s.pc = 0xFB ∧ s.ime = false ∧ s.eiPending = false) ∧
    (let s := boot [0xF3]; s.execState = .normal ∧ s.haltBug = false ∧ s.read8 s.pc = 0xF3) ∧
    (let s : State := { boot [0x00] with eiPending := true };
      s.execState = .normal ∧ s.haltBug = false ∧ s.read8 s.pc = 0x00 ∧ s.eiPending = true) := by decide

/-- At both ends of the window and just outside it. -/
theorem test_witness_WritesFaultOnlyByTheModeSelect :
    (mbc1.cart.kind = .mbc1 ∧ 0x6000 ≤ (0x6000#16).toNat ∧ (0x6000#16).toNat ≤ 0x7FFF ∧ (0x01#8).toNat % 2 = 1) ∧
    (mbc1.cart.kind = .mbc1 ∧ 0x6000 ≤ (0x7FFF#16).toNat ∧ (0x7FFF#16).toNat ≤ 0x7FFF ∧ (0xFF#8).toNat % 2 = 1) ∧
    ¬(mbc1.cart.kind = .mbc1 ∧ 0x6000 ≤ (0x5FFF#16).toNat ∧ (0x5FFF#16).toNat ≤ 0x7FFF ∧ (0x01#8).toNat % 2 = 1) ∧
    ¬((boot []).cart.kind = .mbc1 ∧ 0x6000 ≤ (0x6000#16).toNat ∧ (0x6000#16).toNat ≤ 0x7FFF ∧ (0x01#8).toNat % 2 = 1) ∧
    (mbc1.cart.kind = .mbc1 ∧ 0x6000 ≤ (0x7FFF#16).toNat ∧ (0x7FFF#16).toNat ≤ 0x7FFF ∧ (0xFE#8).toNat % 2 = 0) := by decide

/-- One write and the first or the second of two that select the unsupported mode; the values the hypotheses on `w` name. -/
theorem test_witness_EveryInstructionCompletesOrFaultsByName :
    (let s : State := { mbc1 with h := 0x61, l := 0x00, a := 0x01 };
      s.writeFaults s.hl (s.reg8 .h) = true ∧ s.writeFaults s.hl 0xFF = true ∧ s.writeFaults (s.pointerAddr .hlInc) s.a = true ∧
      s.writeFaults 0x7FFF s.a = true) ∧
    (let s : State := ({ mbc1 with h := 0x60, l := 0x00, f := 0x10 } : State).poke 0x6000 0x02;
      s.writeFaults s.hl (s.read8 s.hl + 1) = true ∧ s.writeFaults s.hl (s.read8 s.hl - 1) = true ∧
      (0x81#8).toNat = rotateNumber .rr (s.read8 s.hl).toNat s.flagC.toNat ∧ s.writeFaults s.hl 0x81 = true ∧
      (∀ k < 8, (0x03#8).getLsbD k = ((s.read8 s.hl).getLsbD k || decide (k = (0 : Fin 8).val))) ∧ s.writeFaults s.hl 0x03 = true) ∧
    (let s : State := ({ mbc1 with h := 0x60, l := 0x00 } : State).poke 0x6000 0x03;
      (∀ k < 8, (0x01#8).getLsbD k = ((s.read8 s.hl).getLsbD k && decide (k ≠ (1 : Fin 8).val))) ∧ s.writeFaults s.hl 0x01 = true) ∧
    (let s : State := { mbc1 with pc := 0x00FF, sp := 0x7002, b := 0x01 };
      s.writeFaults (s.sp - 1) (hiByte (s.stackReg .bc)) = true ∧ s.writeFaults (s.sp - 1) (hiByte (s.pcAfter 3)) = true ∧
      s.writeFaults (s.sp - 1) (hiByte (s.pcAfter 1)) = true ∧ s.writeFaults 0x5FFF (loByte s.sp) = false) ∧
    (let s : State := { mbc1 with pc := 0x0000, sp := 0x7003, c := 0x01 };
      s.writeFaults (s.sp - 1) (hiByte (s.stackReg .bc)) = false ∧ s.writeFaults (s.sp - 2) (loByte (s.stackReg .bc)) = true ∧
      s.writeFaults (s.sp - 1) (hiByte (s.pcAfter 3)) = false ∧ s.writeFaults (s.sp - 2) (loByte (s.pcAfter 3)) = true ∧
      s.writeFaults 0x6000 (loByte s.sp) = true) ∧
    (let s : State := { mbc1 with sp := 0x0102 }; s.writeFaults 0x6000 (loByte s.sp) = false ∧ s.writeFaults 0x6001 (hiByte s.sp) = true) := by
  decide

/-- A store outside the mapper, and an even byte into the mode-select window of MBC1. -/
theorem test_witness_StoresAtHlWriteOneByte :
    (let s : State := { boot [] with h := 0xC1, l := 0x00 }; s.writeFaults s.hl (s.reg8 .h) = false) ∧
    (let s : State := { mbc1 with h := 0x60, l := 0x00 }; s.writeFaults s.hl (s.reg8 .h) = false ∧ s.writeFaults s.hl 0xFE = false) := by
  decide

theorem test_witness_AccumulatorStoresWriteOneByte :
    (let s : State := { mbc1 with a := 0x02, h := 0x7F, l := 0xFF, d := 0xFE, e := 0xA0 };
      s.writeFaults (s.pointerAddr .hlInc) s.a = false ∧ s.writeFaults (s.pointerAddr .hlDec) s.a = false ∧
      s.writeFaults (s.pointerAddr .bc) s.a = false ∧ s.writeFaults (s.pointerAddr .de) s.a = false ∧
      s.writeFaults 0x6000 s.a = false) := by decide

theorem test_witness_StackPointerStoreWritesLowByteFirst :
    (let s := boot []; s.TwoWritesOk 0xC100 (loByte s.sp) (0xC100 + 1) (hiByte s.sp)) ∧
    (let s : State := { mbc1 with sp := 0xFFFE }; s.TwoWritesOk 0x7FFF (loByte s.sp) (0x7FFF + 1) (hiByte s.sp)) ∧
    (let s := boot []; s.TwoWritesOk 0xFFFF (loByte s.sp) (0xFFFF + 1) (hiByte s.sp)) := by
  unfold State.TwoWritesOk; decide

theorem test_witness_PushStoresHighByteThenLowByte :
    (let s : State := { boot [] with sp := 0x0001 };
      s.TwoWritesOk (s.sp - 1) (hiByte (s.stackReg .de)) (s.sp - 2) (loByte (s.stackReg .de))) ∧
    (let s : State := { mbc1 with sp := 0x8000, a := 0x02 };
      s.TwoWritesOk (s.sp - 1) (hiByte (s.stackReg .af)) (s.sp - 2) (loByte (s.stackReg .af))) := by
  unfold State.TwoWritesOk; decide

theorem test_witness_IncrementAndDecrementOfMemory :
    (let s : State := ({ boot [] with h := 0xC1, l := 0x00 } : State).poke 0xC100 0xFF;
      s.writeFaults s.hl (s.read8 s.hl + 1) = false ∧ s.writeFaults s.hl (s.read8 s.hl - 1) = false) ∧
    (let s : State := ({ mbc1 with h := 0x60, l := 0x00 } : State).poke 0x6000 0x01;
      s.writeFaults s.hl (s.read8 s.hl + 1) = false ∧ s.writeFaults s.hl (s.read8 s.hl - 1) = false) := by decide

theorem test_witness_RotatesAndShiftsOfMemory :
    let s : State := ({ boot [] with h := 0xC1, l := 0x00, f := 0x10 } : State).poke 0xC100 0x8A;
    (0xC5#8).toNat = rotateNumber .rr (s.read8 s.hl).toNat s.flagC.toNat ∧ s.writeFaults s.hl 0xC5 = false := by decide

theorem test_witness_ResetAndSetOfMemoryBits :
    let s : State := ({ boot [] with h := 0xC1, l := 0x00 } : State).poke 0xC100 0x81;
    (∀ k < 8, (0x01#8).getLsbD k = ((s.read8 s.hl).getLsbD k && decide (k ≠ (7 : Fin 8).val))) ∧ s.writeFaults s.hl 0x01 = false ∧
    (∀ k < 8, (0x81#8).getLsbD k = ((s.read8 s.hl).getLsbD k || decide (k = (0 : Fin 8).val))) ∧
    s.writeFaults s.hl 0x81 = false := by decide

/-- Every condition holds somewhere and fails somewhere: the hypotheses of JumpsGoToTheirTarget and ReturnsPopTheirAddress. -/
theorem test_witness_JumpsGoToTheirTarget :
    (({ boot [] with f := 0x00 } : State).CondHolds .nz ∧ ({ boot [] with f := 0x00 } : State).CondHolds .nc ∧
      ({ boot [] with f := 0x90 } : State).CondHolds .z ∧ ({ boot [] with f := 0x90 } : State).CondHolds .c) ∧
    ¬({ boot [] with f := 0x90 } : State).CondHolds .nz ∧ ¬({ boot [] with f := 0x90 } : State).CondHolds .nc ∧
    ¬({ boot [] with f := 0x00 } : State).CondHolds .z ∧ ¬({ boot [] with f := 0x00 } : State).CondHolds .c := by
  simp only [State.CondHolds]; decide

theorem test_witness_CallsPushTheReturnAddress :
    let s : State := { boot [] with sp := 0xD000, f := 0x10 };
    s.TwoWritesOk (s.sp - 1) (hiByte (s.pcAfter 3)) (s.sp - 2) (loByte (s.pcAfter 3)) ∧
    s.TwoWritesOk (s.sp - 1) (hiByte (s.pcAfter 1)) (s.sp - 2) (loByte (s.pcAfter 1)) ∧ s.CondHolds .c ∧ ¬s.CondHolds .nc := by
  simp only [State.CondHolds, State.TwoWritesOk]; decide

theorem test_witness_ReturnsPopTheirAddress :
    ({ boot [0xC8] with f := 0x80 } : State).CondHolds .z ∧ ¬({ boot [0xC8] with f := 0x00 } : State).CondHolds .z := by
  simp only [State.CondHolds]; decide

theorem test_witness_HaltEntersHaltOnlyWithNothingPending :
    (let s : State := { boot [] with ie := 0xE0, iflags := 0x1F }; s.ie.extractLsb' 0 5 &&& s.iflags = 0) ∧
    (let s : State := { boot [] with ie := 0x10, iflags := 0x10, ime := true };
      s.ie.extractLsb' 0 5 &&& s.iflags ≠ 0 ∧ s.ime = true) ∧
    (let s : State := { boot [] with ie := 0x01, iflags := 0x01 };
      s.ie.extractLsb' 0 5 &&& s.iflags ≠ 0 ∧ s.params.haltPendingIme0 = .resume) ∧
    (let s : State := { boot [] with ie := 0x01, iflags := 0x01, params := { Params.default with haltPendingIme0 := .fault } };
      s.ie.extractLsb' 0 5 &&& s.iflags ≠ 0 ∧ s.ime = false ∧ s.params.haltPendingIme0 = .fault) ∧
    (let s : State := { boot [] with ie := 0x01, iflags := 0x01, params := { Params.default with haltPendingIme0 := .bug } };
      s.ie.extractLsb' 0 5 &&& s.iflags ≠ 0 ∧ s.ime = false ∧ s.params.haltPendingIme0 = .bug) := by decide

/-- Each region at a boundary address. -/
theorem test_witness_StoreThenReadGivesTheByte :
    (boot [0x01]).memoryWf = true ∧ region 0x8000 = .vram ∧ region 0x9FFF = .vram ∧ region 0xC000 = .wram ∧ region 0xDFFF = .wram ∧
    region 0xE000 = .echo ∧ region 0xFDFF = .echo ∧ region 0xFE00 = .oam ∧ region 0xFE9F = .oam ∧ region 0xFF80 = .hram ∧
    region 0xFFFE = .hram ∧ region 0xFFFF = .ie ∧
    (region 0xFF0E = .io ∧ (0xFF0E#16) ≠ 0xFF00 ∧ (0xFF0E#16) ≠ 0xFF0F ∧ ¬(0xFF10 ≤ (0xFF0E#16).toNat ∧ (0xFF0E#16).toNat ≤ 0xFF3F)) ∧
    (region 0xFF40 = .io ∧ (0xFF40#16) ≠ 0xFF00 ∧ (0xFF40#16) ≠ 0xFF0F ∧ ¬(0xFF10 ≤ (0xFF40#16).toNat ∧ (0xFF40#16).toNat ≤ 0xFF3F)) ∧
    0xFEA0 ≤ (0xFEA0#16).toNat ∧ (0xFEFF#16).toNat ≤ 0xFEFF ∧ 0xFF30 ≤ (0xFF30#16).toNat ∧ (0xFF3F#16).toNat ≤ 0xFF3F := by decide

/-- An address that a store does not reach: beside the cell and its echo, beside a mirror, and outside the audio status. -/
theorem test_witness_StoreReachesOnlyItsCells :
    (boot []).reaches 0xC100 0xC101 = false ∧ (boot []).reaches 0xC100 0xE101 = false ∧ (boot []).reaches 0xC100 0xE100 = true ∧
    mbc1.reaches 0xA000 0xA001 = false ∧ mbc1.reaches 0x2000 0x3FFF = false ∧ (boot []).reaches 0xFF14 0xFF13 = false := by decide

theorem test_witness_EchoIsTheSameStorage : 0x1DFF ≤ 0x1DFF ∧ (boot [0x01]).memoryWf = true := by decide

theorem test_witness_RomOnlyCartridgeIgnoresWrites :
    (boot []).cart.kind = .romOnly ∧ ((0x7FFF#16).toNat ≤ 0x7FFF ∨ (0xA000 ≤ (0x7FFF#16).toNat ∧ (0x7FFF#16).toNat ≤ 0xBFFF)) ∧
    ((0xA000#16).toNat ≤ 0x7FFF ∨ (0xA000 ≤ (0xA000#16).toNat ∧ (0xA000#16).toNat ≤ 0xBFFF)) ∧
    0xA000 ≤ (0xBFFF#16).toNat ∧ (0xBFFF#16).toNat ≤ 0xBFFF := by decide

/-- A bank inside the image, and one beyond it under both values of ROM_BANK_OOR. -/
theorem test_witness_Mbc1BankSelectAndWindow :
    (mbc1.cart.kind = .mbc1 ∧ 0x2000 ≤ (0x2000#16).toNat ∧ (0x3FFF#16).toNat ≤ 0x3FFF) ∧
    (mbc1.cart.romBank.toNat < mbc1.cart.romBanks) ∧
    (let s := mbc1.store8 0x2000 0x1F;
      s.cart.romBanks ≤ s.cart.romBank.toNat ∧ s.params.romBankOor = .saturate) ∧
    (let s : State := { mbc1.store8 0x2000 0x1F with params := { Params.default with romBankOor := .mask } };
      s.cart.romBanks ≤ s.cart.romBank.toNat ∧ s.params.romBankOor = .mask ∧
      ∃ b : Nat, b = s.cart.romBank.toNat % s.cart.romBanks) := by
  refine ⟨by decide, by decide, by decide, by decide, by decide, _, rfl⟩

theorem test_witness_Mbc1RamNeedsItsEnable :
    (mbc1.cart.kind = .mbc1 ∧ (0x1FFF#16).toNat ≤ 0x1FFF ∧ mbc1.cart.ramEnable = false) ∧
    (let s := mbc1.store8 0x0000 0x0A;
      s.cart.kind = .mbc1 ∧ s.cart.ramEnable = true ∧ 0 < s.cart.ramSize ∧ s.memoryWf = true ∧
      0xA000 ≤ (0xA000#16).toNat ∧ (0xBFFF#16).toNat ≤ 0xBFFF) := by decide

theorem test_witness_AudioPowerSwitch :
    (State.reset.memoryWf = true ∧ (0x7F#8).getLsbD 7 = false ∧ State.reset.apu.power = true) ∧
    (let s := State.reset.store8 0xFF26 0x00; s.memoryWf = true ∧ (0x80#8).getLsbD 7 = true ∧ s.apu.power = false) ∧
    (0xFF#8).getLsbD 7 = State.reset.apu.power := by decide

theorem test_witness_AudioRegisterWritesAreGated :
    ¬(State.reset.apu.power = true ∧ (∃ n, (0x02 : Nat) = controlReg n) ∧ (0x00#8).getLsbD 7 = true) ∧
    (let apu := (State.reset.store8 0xFF26 0x00).apu;
      Memory.wf .apu apu.regs = true ∧ apu.power = false ∧ 0x15 < 0x16 ∧ lengthChan 0x15 = none ∧ lengthChan 0x01 = some .ch1 ∧
      lengthChan 0x0B = some .ch3) ∧
    (let apu := State.reset.apu;
      Memory.wf .apu apu.regs = true ∧ apu.power = true ∧
      (Chan.ch3, 0x0B) ∈ [(Chan.ch1, 0x01), (.ch2, 0x06), (.ch3, 0x0B), (.ch4, 0x10)] ∧
      (Chan.ch4, 0x11) ∈ [(Chan.ch1, 0x02), (.ch2, 0x07), (.ch3, 0x0A), (.ch4, 0x11)] ∧ 0x15 ∈ [0x03, 0x08, 0x0C, 0x0D, 0x12, 0x14, 0x15] ∧
      0x13 ∈ [0x04, 0x09, 0x0E, 0x13] ∧ (0x7F#8).getLsbD 7 = false) := by
  refine ⟨?_, by decide, by decide⟩
  rintro ⟨-, -, h⟩
  exact absurd h (by decide)

/-- Channel 1 with its DAC on at reset, channel 2 with its DAC off, channel 3 with it on. -/
theorem test_witness_TriggerObeysTheDac :
    (let apu := State.reset.apu;
      Memory.wf .apu apu.regs = true ∧ apu.power = true ∧ (0x80#8).getLsbD 7 = true ∧ apu.dacOn .ch1 = true ∧
      apu.dacOn .ch2 = false) ∧
    (let apu := (State.reset.store8 0xFF1A 0x80).apu;
      Memory.wf .apu apu.regs = true ∧ apu.power = true ∧ apu.dacOn .ch3 = true) ∧
    (State.reset.apu.len .ch1 = 0 ∧ (0xC0#8).getLsbD 6 = true ∧ Params.default.lenReloadAlign.getLsbD State.reset.apu.fs = true) := by
  decide

/-- Before an even phase, before phase 2 and before phase 7; the four cases of `Envelope.TicksTo`. -/
theorem test_witness_FrameSequencerPhases :
    (Memory.wf .apu State.reset.apu.regs = true ∧ ∀ n, State.reset.apu.len n ≤ lenMax n) ∧
    (let apu : Apu := { Apu.reset with regs := [(0x04, 0xC7)], fs := 7, len1 := 63 };
      Memory.wf .apu apu.regs = true ∧ (apu.fs + 1) % 8 % 2 = 0 ∧ apu.lengthEnabled .ch1 = true ∧ apu.step.len .ch1 = lenMax .ch1) ∧
    (let apu : Apu := { Apu.reset with fs := 1 }; (apu.fs + 1) % 8 = 2) ∧
    (let apu : Apu := { Apu.reset with fs := 6, env1 := ⟨3, 2, false, 15⟩, env2 := ⟨0, 1, false, 15⟩, env4 := ⟨1, 1, true, 15⟩ };
      (apu.fs + 1) % 8 = 7 ∧ apu.on1 = true ∧ apu.on2 = false ∧ 1 < apu.env1.cnt ∧ apu.env2.cnt ≤ 1 ∧ apu.env2.pace = 0 ∧
      apu.env4.cnt ≤ 1 ∧ apu.env4.pace ≠ 0) := by
  refine ⟨⟨by decide, ?_⟩, by decide, by decide, by decide⟩
  intro n; cases n <;> decide

/-- The sweep disabled; counting; due with the live pace 0; due and overflowing; due and in range, with shift 0 and with shift 1. -/
theorem test_witness_SweepTickFollowsTheLiveRegister :
    (Memory.wf .apu Apu.reset.regs = true ∧ ¬(Apu.reset.sweep.en = true ∧ Apu.reset.on1 = true)) ∧
    (let apu : Apu := { Apu.reset with sweep := ⟨2, 2, true, 0x100, false⟩ };
      apu.sweep.en = true ∧ apu.on1 = true ∧ 1 < apu.sweep.cnt) ∧
    (let apu : Apu := { Apu.reset with regs := [(0x00, 0x01)], sweep := ⟨2, 1, true, 0x100, false⟩ };
      Memory.wf .apu apu.regs = true ∧ apu.sweep.en = true ∧ apu.on1 = true ∧ apu.sweep.cnt ≤ 1 ∧ (apu.reg 0x00).toNat / 16 % 8 = 0) ∧
    (let apu : Apu := { Apu.reset with regs := [(0x00, 0x11)], sweep := ⟨1, 1, true, 0x7D0, false⟩ };
      Memory.wf .apu apu.regs = true ∧ apu.sweep.cnt ≤ 1 ∧ (apu.reg 0x00).toNat / 16 % 8 ≠ 0 ∧ (apu.reg 0x00).getLsbD 3 = false ∧
      2047 < apu.sweep.freq + apu.sweep.freq / 2 ^ ((apu.reg 0x00).toNat % 8)) ∧
    (let apu : Apu := { Apu.reset with regs := [(0x00, 0x10)], sweep := ⟨1, 1, true, 0x3FF, false⟩ };
      Memory.wf .apu apu.regs = true ∧ apu.sweep.cnt ≤ 1 ∧ (apu.reg 0x00).toNat / 16 % 8 ≠ 0 ∧ (apu.reg 0x00).toNat % 8 = 0 ∧
      apu.sweep.freq + apu.sweep.freq / 2 ^ ((apu.reg 0x00).toNat % 8) ≤ 2047) ∧
    (let apu : Apu := { Apu.reset with regs := [(0x00, 0x19)], sweep := ⟨1, 1, true, 0x400, false⟩ };
      Memory.wf .apu apu.regs = true ∧ apu.sweep.cnt ≤ 1 ∧ (apu.reg 0x00).toNat / 16 % 8 ≠ 0 ∧ (apu.reg 0x00).toNat % 8 ≠ 0 ∧
      (apu.reg 0x00).getLsbD 3 = true) := by decide

/-- One step that is due, and three. -/
theorem test_witness_AudioStepsKeepTheirCadence :
    0 < State.reset.params.apuStepPeriod ∧
    ({ State.reset with cycles := 8192 } : State).apuCatchUp.apuNext = 16384 ∧
    ({ State.reset with cycles := 24576 } : State).apuCatchUp.apuNext = 32768 := by decide

/-- RAM contents for the witnesses: one byte of work RAM and one of the wave pattern memory. -/
def someRam : RamInit where
  vram := []
  wram := [(0, 0x76)]
  oam := []
  hram := []
  cartRam := []
  wave := [(0x20, 0xAB)]

/-- The 32KB image of zeros loads: R90. -/
theorem test_witness_powerOn : ∃ t, powerOn (List.replicate 0x8000 0x00) someRam Params.default = .next t := by
  have hl : (List.replicate 0x8000 (0x00 : Byte)).length = 0x8000 := List.length_replicate
  have hd : (List.replicate 0x8000 (0x00 : Byte)).getD 0x147 0 = 0x00 := by
    rw [List.getD_eq_getElem _ _ (by rw [hl]; decide), List.getElem_replicate]
  have h : Cart.load (List.replicate 0x8000 0x00) someRam.cartRam =
      .ok (Cart.ofImage .romOnly 0 (List.replicate 0x8000 0x00) someRam.cartRam) := by
    rw [Cart.load, hl, hd, if_neg (by decide), if_pos rfl, if_pos (by decide)]
  exact ⟨_, by rw [powerOn, h]⟩

theorem test_witness_HostResetIsIdempotentAndKeepsStorage :
    mbc1.cart.kind = .mbc1 ∧ (boot []).cart.kind = .romOnly ∧
    ∃ (image : List Byte) (ram : RamInit) (p : Params) (t : State), powerOn image ram p = .next t := by
  obtain ⟨t, h⟩ := test_witness_powerOn
  exact ⟨by decide, by decide, _, _, _, t, h⟩

theorem test_witness_ButtonsAndRequestsSetTheirBits :
    State.reset.params.buttonMap = ButtonMap.default ∧ State.reset.memoryWf = true ∧
    (0xFF01 ≤ (0xFF01#16).toNat ∧ (0xFF01#16).toNat ≤ 0xFF7F ∧ ¬(0xFF0F ≤ (0xFF01#16).toNat ∧ (0xFF01#16).toNat ≤ 0xFF3F)) ∧
    (0xFF01 ≤ (0xFF7F#16).toNat ∧ (0xFF7F#16).toNat ≤ 0xFF7F ∧ ¬(0xFF0F ≤ (0xFF7F#16).toNat ∧ (0xFF7F#16).toNat ≤ 0xFF3F)) := by decide

/-- A state with something in every store. -/
def busy : State :=
  { boot [0x3C, 0x76] with
    vram := [(1, 0x22)]
    oam := [(159, 0x33)]
    hram := [(126, 0x44)]
    apu := { Apu.reset with regs := [(0x02, 0x50), (0x20, 0xAB)], len1 := 63, fs := 6 }
    cycles := 8190 }

/-- It meets the invariant, and its next step completes with an audio step. -/
theorem test_witness_EveryStepKeepsTheInvariant : busy.Inv ∧ ∃ t, step busy = .next t ∧ t.apuNext = 16384 := by
  refine ⟨?_, _, rfl, by decide⟩
  refine ⟨by decide, by decide, by decide, by decide, by decide, by decide, ?_, ?_, by decide, by decide⟩
  · exact ⟨by decide, by decide, by decide, by decide, by decide, by decide, by decide, by decide⟩
  · refine ⟨by decide, by decide, ?_, ⟨by decide, by decide, by decide⟩, ⟨by decide, by decide, by decide⟩,
      ⟨by decide, by decide, by decide⟩, ⟨by decide, by decide, by decide⟩, ?_, by decide, ?_, ?_⟩
    · intro n; cases n <;> decide
    · intro n; cases n <;> decide
    · intro h; exact absurd h (by decide)
    · intro h; exact absurd h (by decide)

theorem test_witness_ReachableStatesMeetTheInvariant : ∃ s : State, Reachable s := by
  obtain ⟨t, h⟩ := test_witness_powerOn
  exact ⟨_, .powerOn _ _ _ [[.press .a], [.reset]] t (by decide) (by decide) h⟩

theorem test_witness_StepsKeepImageAndParametersAndCountUp :
    ∃ s t : State, step s = .next t ∧ ∀ moves ∈ s.schedule.head?, HostMove.reset ∉ moves :=
  ⟨{ boot [0x3C] with schedule := [[.press .b, .externalIoWrite 0xFF01 0x55]] }, _, rfl, by decide⟩

theorem test_witness_OnlyNamedInstructionsChangeControlState :
    ∃ (i : Instr) (s t : State), exec i s = .next t ∧ i ≠ .di ∧ i ≠ .reti ∧ i ≠ .ei ∧ i ≠ .halt ∧ ∀ x, i ≠ .stop x :=
  ⟨.incA, busy, _, rfl, by decide, by decide, by decide, by decide, fun x => by simp⟩

end Sys2Proof.Tests
end

/-! ## What one step of the machine is made of

Every instruction, the dispatch of an interrupt and the idle steps are sequences of two kinds of elementary move: a change
of registers that leaves the stores alone, and a store of one byte. What both kinds keep, every CPU step keeps. -/

namespace Sys2Proof.Machine

/-- `t` is `s` but for registers, interrupt and joypad state, execution state and, by at least `n` ticks, the cycle counter;
the low nibble of F is kept or cleared (R22). -/
structure State.RegsOnly (s t : State) (n : Nat) : Prop where
  vram : t.vram = s.vram
  wram : t.wram = s.wram
  oam : t.oam = s.oam
  hram : t.hram = s.hram
  io : t.io = s.io
  cart : t.cart = s.cart
  apu : t.apu = s.apu
  apuNext : t.apuNext = s.apuNext
  params : t.params = s.params
  flags : t.f = s.f ∨ t.f &&& 0x0F = 0
  ticks : s.cycles + n ≤ t.cycles

/-- One elementary move. -/
inductive State.Move (s : State) : State → Prop where
  | regs {t : State} {n : Nat} (h : s.RegsOnly t n) : Move s t
  | store (addr : Addr) (v : Byte) : Move s (s.store8 addr v)

/-- `t` is reached from `s` by elementary moves and at least `n` ticks. -/
structure State.Ran (s t : State) (n : Nat) : Prop where
  moves : Relation.ReflTransGen State.Move s t
  ticks : s.cycles + n ≤ t.cycles

theorem State.Ran.refl (s : State) : s.Ran s 0 := ⟨.refl, le_refl _⟩

theorem State.Ran.trans {s t u : State} {k m n : Nat} (h : s.Ran t m) (h' : t.Ran u n) (hk : k ≤ m + n) : s.Ran u k :=
  ⟨h.moves.trans h'.moves, by have := h.ticks; have := h'.ticks; omega⟩

theorem State.Ran.of_regs {s t : State} {n : Nat} (h : s.RegsOnly t n) : s.Ran t n :=
  ⟨.single (.regs h), h.ticks⟩

theorem State.Ran.of_store (s : State) (addr : Addr) (v : Byte) : s.Ran (s.store8 addr v) 0 := by
  obtain ⟨-, -, -, -, -, -, -, -, -, -, hcycles, -⟩ := s.store8_regs addr v
  exact ⟨.single (.store addr v), by simp [hcycles]⟩

/-- Where `r` completes, it ends in a state that moves and at least `n` ticks lead to from `s`. -/
def Result.Runs (r : Result) (s : State) (n : Nat) : Prop :=
  ∀ t, r = .next t → s.Ran t n

theorem Result.runs_next {s t : State} {n : Nat} (h : s.Ran t n) : Result.Runs (.next t) s n := by
  rintro _ ⟨⟩
  exact h

/-- A register update that completes. -/
theorem Result.runs_of_regs {s t : State} {n : Nat} (h : s.RegsOnly t n) : Result.Runs (.next t) s n :=
  runs_next (.of_regs h)

theorem Result.runs_fault (x : Fault) (s : State) (n : Nat) : Result.Runs (.fault x) s n := by
  rintro t ⟨⟩

theorem Result.Runs.mono {r : Result} {s : State} {m n : Nat} (h : r.Runs s n) (hmn : m ≤ n) : r.Runs s m :=
  fun t ht => (State.Ran.refl s).trans (h t ht) (by omega)

/-- What runs from the state that a register update leaves runs from the state before it. -/
theorem Result.Runs.after {r : Result} {s u : State} {n : Nat} (h : r.Runs u n) (hu : s.RegsOnly u 0) : r.Runs s n :=
  fun t ht => (State.Ran.of_regs hu).trans (h t ht) (by omega)

theorem Result.Runs.andThen {r : Result} {f : State → Result} {s : State} {k m n : Nat} (h : r.Runs s m)
    (hf : ∀ u, (f u).Runs u n) (hk : k ≤ m + n) : (r.andThen f).Runs s k := fun t ht => by
  obtain ⟨u, hu, hft⟩ := andThen_eq_next.mp ht
  exact (h u hu).trans (hf u t hft) hk

theorem Result.Runs.thenTick {r : Result} {s : State} {k m n : Nat} (h : r.Runs s m) (hk : k ≤ m + n) :
    (r.thenTick n).Runs s k :=
  h.andThen (fun _ => runs_of_regs (by constructor <;> simp)) hk

/-! ## The shared operations -/

theorem State.write8_runs (s : State) (addr : Addr) (v : Byte) : (s.write8 addr v).Runs s 0 := fun t ht => by
  rw [(write8_eq_next.mp ht).2]
  exact .of_store s addr v

theorem State.write16_runs (s : State) (addr v : Addr) : (s.write16 addr v).Runs s 0 :=
  (s.write8_runs addr _).andThen (fun t => t.write8_runs (addr + 1) _) (le_refl 0)

theorem State.regsOnly_sp (s : State) (x : Addr) : s.RegsOnly { s with sp := x } 0 := by
  constructor <;> simp

theorem State.push16_runs (s : State) (v : Addr) : (s.push16 v).Runs s 0 :=
  ((write8_runs _ _ _).after (s.regsOnly_sp _)).andThen (fun t => (write8_runs _ _ _).after (t.regsOnly_sp _)) (le_refl 0)

theorem State.writeOperand_runs (s : State) (t : Operand) (v : Byte) : (s.writeOperand t v).Runs s 0 := by
  cases t with
  | reg r => exact Result.runs_of_regs (by constructor <;> simp)
  | atHl => exact s.write8_runs s.hl v

theorem State.goTo_runs (s : State) (target : Addr) (cost : Nat) : (s.goTo target cost).Runs s cost :=
  Result.runs_of_regs (by constructor <;> simp)

theorem State.callTo_runs (s : State) (target : Addr) (cost : Nat) : (s.callTo target cost).Runs s cost :=
  (s.push16_runs s.pc).andThen (fun t => t.goTo_runs target cost) (by omega)

theorem State.takeInterrupt_runs (s : State) (i : Fin 5) : (s.takeInterrupt i).Runs s 20 :=
  ((push16_runs _ _).after (by constructor <;> simp)).andThen
    (fun _ => Result.runs_of_regs (n := 20) (by constructor <;> simp)) (by decide)

theorem State.interruptCheck_runs (s : State) : s.interruptCheck.Runs s 0 := by
  rcases s.interruptCheck_cases with h | ⟨i, -, -, h⟩ <;> rw [h]
  · exact Result.runs_next (.refl s)
  · exact (s.takeInterrupt_runs i).mono (Nat.zero_le 20)

theorem State.boundaryCheck_runs (s : State) : s.boundaryCheck.Runs s 0 := by
  rcases s.boundaryCheck_cases with h | ⟨i, -, -, -, h⟩ <;> rw [h]
  · exact Result.runs_next (.refl s)
  · exact (s.takeInterrupt_runs i).mono (Nat.zero_le 20)

/-! ## Every instruction takes at least 4 ticks -/

theorem State.fetched_regsOnly (s : State) (n : Addr) : s.RegsOnly (s.fetched n) 0 := by
  constructor <;> simp

theorem State.setStackReg_f (s : State) (r : StackReg) (v : Addr) :
    (s.setStackReg r v).f = s.f ∨ (s.setStackReg r v).f &&& 0x0F = 0 := by
  cases r with
  | bc | de | hl => exact .inl rfl
  | af => exact .inr (by simp [State.setStackReg, State.setAf, BitVec.and_assoc])

theorem operandCost_ge {t : Operand} {n reg atHl : Nat} (hreg : n ≤ reg) (hatHl : n ≤ atHl) :
    n ≤ operandCost t reg atHl := by
  cases t <;> assumption

/-- The write of an operand after a register update, with a cost of at least 4 ticks. -/
theorem State.writeOperand_thenTick_runs {s u : State} (t : Operand) (v : Byte) {reg atHl : Nat} (hu : s.RegsOnly u 0)
    (hreg : 4 ≤ reg) (hatHl : 4 ≤ atHl) : ((u.writeOperand t v).thenTick (operandCost t reg atHl)).Runs s 4 :=
  ((u.writeOperand_runs t v).after hu).thenTick (by simpa using operandCost_ge hreg hatHl)

theorem loadRegReg_runs (dst src : Reg8) (s : State) : (loadRegReg dst src s).Runs s 4 :=
  Result.runs_of_regs (by constructor <;> simp)

theorem loadRegAtHl_runs (dst : Reg8) (s : State) : (loadRegAtHl dst s).Runs s 4 := Result.runs_of_regs (by constructor <;> simp)

theorem loadImm_runs (t : Operand) (n : Byte) (s : State) : (loadImm t n s).Runs s 4 :=
  State.writeOperand_thenTick_runs t n (s.fetched_regsOnly 2) (by decide) (by decide)

theorem storeAtHlReg_runs (src : Reg8) (s : State) : (storeAtHlReg src s).Runs s 4 :=
  ((State.write8_runs _ _ _).after (s.fetched_regsOnly 1)).thenTick (by decide)

theorem loadAFrom_runs (addr n : Addr) {cost : Nat} (hcost : 4 ≤ cost) (s : State) : (loadAFrom addr n cost s).Runs s 4 :=
  Result.runs_of_regs (by constructor <;> simp [hcost])

theorem storeATo_runs (addr n : Addr) {cost : Nat} (hcost : 4 ≤ cost) (s : State) : (storeATo addr n cost s).Runs s 4 :=
  ((State.write8_runs _ _ _).after (s.fetched_regsOnly n)).thenTick (by omega)

theorem loadAPointer_runs (p : Pointer) (s : State) : (loadAPointer p s).Runs s 4 := Result.runs_of_regs (by constructor <;> simp)

theorem storePointerA_runs (p : Pointer) (s : State) : (storePointerA p s).Runs s 4 :=
  ((State.write8_runs _ _ _).after (s.fetched_regsOnly 1)).andThen
    (fun _ => Result.runs_of_regs (n := 8) (by constructor <;> simp)) (by decide)

theorem loadPair_runs (r : Reg16) (n : Addr) (s : State) : (loadPair r n s).Runs s 4 :=
  Result.runs_of_regs (by constructor <;> simp)

theorem storeSp_runs (n : Addr) (s : State) : (storeSp n s).Runs s 4 :=
  ((State.write16_runs _ _ _).after (s.fetched_regsOnly 3)).thenTick (by decide)

theorem loadSpHl_runs (s : State) : (loadSpHl s).Runs s 4 := Result.runs_of_regs (by constructor <;> simp)

theorem loadHlSpPlus_runs (e : Byte) (s : State) : (loadHlSpPlus e s).Runs s 4 := Result.runs_of_regs (by constructor <;> simp)

theorem pushPair_runs (r : StackReg) (s : State) : (pushPair r s).Runs s 4 :=
  ((State.push16_runs _ _).after (s.fetched_regsOnly 1)).thenTick (by decide)

theorem popPair_runs (r : StackReg) (s : State) : (popPair r s).Runs s 4 := by
  have hflags := (s.fetched 1).popped.setStackReg_f r s.popValue
  exact Result.runs_of_regs (by constructor <;> simp_all)

theorem aluOperand_runs (o : AluOp) (t : Operand) (s : State) : (aluOperand o t s).Runs s 4 := by
  unfold aluOperand State.applyAlu
  exact Result.runs_of_regs (by constructor <;> simp [operandCost_ge])

theorem aluImm_runs (o : AluOp) (n : Byte) (s : State) : (aluImm o n s).Runs s 4 := by
  unfold aluImm State.applyAlu
  exact Result.runs_of_regs (by constructor <;> simp)

theorem incOperand_runs (t : Operand) (s : State) : (incOperand t s).Runs s 4 :=
  State.writeOperand_thenTick_runs t _ (by constructor <;> simp) (by decide) (by decide)

theorem decOperand_runs (t : Operand) (s : State) : (decOperand t s).Runs s 4 :=
  State.writeOperand_thenTick_runs t _ (by constructor <;> simp) (by decide) (by decide)

theorem decimalAdjust_runs (s : State) : (decimalAdjust s).Runs s 4 := Result.runs_of_regs (by constructor <;> simp)

theorem complementA_runs (s : State) : (complementA s).Runs s 4 := Result.runs_of_regs (by constructor <;> simp)

theorem setCarry_runs (s : State) : (setCarry s).Runs s 4 := Result.runs_of_regs (by constructor <;> simp)

theorem complementCarry_runs (s : State) : (complementCarry s).Runs s 4 := Result.runs_of_regs (by constructor <;> simp)

theorem addHl_runs (r : Reg16) (s : State) : (addHl r s).Runs s 4 := Result.runs_of_regs (by constructor <;> simp)

theorem incPair_runs (r : Reg16) (s : State) : (incPair r s).Runs s 4 := Result.runs_of_regs (by constructor <;> simp)

theorem decPair_runs (r : Reg16) (s : State) : (decPair r s).Runs s 4 := Result.runs_of_regs (by constructor <;> simp)

theorem addSp_runs (e : Byte) (s : State) : (addSp e s).Runs s 4 := Result.runs_of_regs (by constructor <;> simp)

theorem rotateA_runs (o : RotOp) (s : State) : (rotateA o s).Runs s 4 := Result.runs_of_regs (by constructor <;> simp)

theorem rotateOperand_runs (o : RotOp) (t : Operand) (s : State) : (rotateOperand o t s).Runs s 4 :=
  State.writeOperand_thenTick_runs t _ (by constructor <;> simp) (by decide) (by decide)

theorem testBit_runs (b : Fin 8) (t : Operand) (s : State) : (testBit b t s).Runs s 4 :=
  Result.runs_of_regs (by constructor <;> simp [operandCost_ge])

theorem resetBit_runs (b : Fin 8) (t : Operand) (s : State) : (resetBit b t s).Runs s 4 :=
  State.writeOperand_thenTick_runs t _ (s.fetched_regsOnly 2) (by decide) (by decide)

theorem setBit_runs (b : Fin 8) (t : Operand) (s : State) : (setBit b t s).Runs s 4 :=
  State.writeOperand_thenTick_runs t _ (s.fetched_regsOnly 2) (by decide) (by decide)

/-! The jumps, calls and returns: taken or not, each completes with a cost of at least 4. -/

theorem State.goTo_runs_of_regs {s u : State} (target : Addr) {cost : Nat} (hu : s.RegsOnly u 0) (hcost : 4 ≤ cost) :
    (u.goTo target cost).Runs s 4 :=
  ((u.goTo_runs target cost).mono hcost).after hu

theorem State.callTo_runs_of_fetched (s : State) (n target : Addr) {cost : Nat} (hcost : 4 ≤ cost) :
    ((s.fetched n).callTo target cost).Runs s 4 :=
  ((State.callTo_runs _ target cost).mono hcost).after (s.fetched_regsOnly n)

/-- An instruction of `n` bytes that only takes its time. -/
theorem State.fetched_tick_runs (s : State) (n : Addr) {cost : Nat} (hcost : 4 ≤ cost) :
    Result.Runs (.next ((s.fetched n).tick cost)) s 4 :=
  Result.runs_of_regs (by constructor <;> simp [hcost])

theorem State.fetched_popped_regsOnly (s : State) (n : Addr) : s.RegsOnly (s.fetched n).popped 0 := by
  constructor <;> simp

theorem jump_runs (n : Addr) (s : State) : (jump n s).Runs s 4 := State.goTo_runs_of_regs _ (s.fetched_regsOnly 3) (by decide)

theorem jumpIf_runs (k : Cond) (n : Addr) (s : State) : (jumpIf k n s).Runs s 4 := by
  unfold jumpIf
  split
  · exact State.goTo_runs_of_regs _ (s.fetched_regsOnly 3) (by decide)
  · exact s.fetched_tick_runs 3 (by decide)

theorem jumpHl_runs (s : State) : (jumpHl s).Runs s 4 := State.goTo_runs_of_regs _ (s.fetched_regsOnly 1) (by decide)

theorem jumpRelative_runs (e : Byte) (s : State) : (jumpRelative e s).Runs s 4 :=
  State.goTo_runs_of_regs _ (s.fetched_regsOnly 2) (by decide)

theorem jumpRelativeIf_runs (k : Cond) (e : Byte) (s : State) : (jumpRelativeIf k e s).Runs s 4 := by
  unfold jumpRelativeIf
  split
  · exact State.goTo_runs_of_regs _ (s.fetched_regsOnly 2) (by decide)
  · exact s.fetched_tick_runs 2 (by decide)

theorem call_runs (n : Addr) (s : State) : (call n s).Runs s 4 := s.callTo_runs_of_fetched 3 n (by decide)

theorem callIf_runs (k : Cond) (n : Addr) (s : State) : (callIf k n s).Runs s 4 := by
  unfold callIf
  split
  · exact s.callTo_runs_of_fetched 3 n (by decide)
  · exact s.fetched_tick_runs 3 (by decide)

theorem returnFromCall_runs (s : State) : (returnFromCall s).Runs s 4 :=
  State.goTo_runs_of_regs _ (s.fetched_popped_regsOnly 1) (by decide)

theorem returnIf_runs (k : Cond) (s : State) : (returnIf k s).Runs s 4 := by
  unfold returnIf
  split
  · exact State.goTo_runs_of_regs _ (s.fetched_popped_regsOnly 1) (by decide)
  · exact s.fetched_tick_runs 1 (by decide)

theorem returnAndEnable_runs (s : State) : (returnAndEnable s).Runs s 4 := by
  unfold returnAndEnable State.returnFromInterrupt
  exact Result.runs_of_regs (by constructor <;> simp)

theorem restart_runs (y : Fin 8) (s : State) : (restart y s).Runs s 4 := s.callTo_runs_of_fetched 1 _ (by decide)

theorem noOperation_runs (s : State) : (noOperation s).Runs s 4 := s.fetched_tick_runs 1 (by decide)

theorem haltCpu_runs (s : State) : (haltCpu s).Runs s 4 := by
  unfold haltCpu
  split
  · exact Result.runs_of_regs (by constructor <;> simp)
  · split
    · exact s.fetched_tick_runs 1 (by decide)
    · split
      · exact s.fetched_tick_runs 1 (by decide)
      · exact Result.runs_fault _ s 4
      · exact Result.runs_of_regs (by constructor <;> simp)

theorem stopCpu_runs (s : State) : (stopCpu s).Runs s 4 := Result.runs_of_regs (by constructor <;> simp)

theorem disableInterrupts_runs (s : State) : (disableInterrupts s).Runs s 4 := Result.runs_of_regs (by constructor <;> simp)

theorem enableInterrupts_runs (s : State) : (enableInterrupts s).Runs s 4 := Result.runs_of_regs (by constructor <;> simp)

/-! ## Everything the decoder can answer, block by block (R127 to R132) -/

theorem exec_decodeBlock0_runs (op b1 b2 : Byte) (s : State) : Result.Runs (exec (decodeBlock0 op b1 b2) s) s 4 := by
  unfold decodeBlock0
  split
  · split
    · exact noOperation_runs s
    · exact storeSp_runs _ s
    · exact stopCpu_runs s
    · exact jumpRelative_runs b1 s
    all_goals exact exec_jrCc _ b1 s ▸ jumpRelativeIf_runs _ b1 s
  · split
    · exact exec_addHlRr _ s ▸ addHl_runs _ s
    · exact exec_ldRrN16 _ _ s ▸ loadPair_runs _ _ s
  · split
    · exact exec_ldAPointer _ s ▸ loadAPointer_runs _ s
    · exact exec_ldPointerA _ s ▸ storePointerA_runs _ s
  · split
    · exact exec_decRr _ s ▸ decPair_runs _ s
    · exact exec_incRr _ s ▸ incPair_runs _ s
  · exact exec_inc _ s ▸ incOperand_runs _ s
  · exact exec_dec _ s ▸ decOperand_runs _ s
  · exact exec_ldN8 _ b1 s ▸ loadImm_runs _ b1 s
  · split
    case h_1 | h_2 | h_3 | h_4 => exact rotateA_runs _ s
    · exact decimalAdjust_runs s
    · exact complementA_runs s
    · exact setCarry_runs s
    · exact complementCarry_runs s

theorem exec_decodeBlock1_runs (op : Byte) (s : State) : Result.Runs (exec (decodeBlock1 op) s) s 4 := by
  unfold decodeBlock1
  split
  · exact exec_ldRegReg _ _ s ▸ loadRegReg_runs _ _ s
  · exact exec_ldRegAtHl _ s ▸ loadRegAtHl_runs _ s
  · exact exec_ldAtHlReg _ s ▸ storeAtHlReg_runs _ s
  · exact haltCpu_runs s

theorem exec_decodeBlock2_runs (op : Byte) (s : State) : Result.Runs (exec (decodeBlock2 op) s) s 4 :=
  exec_alu _ _ s ▸ aluOperand_runs _ _ s

theorem exec_decodeCb_runs (op2 : Byte) (s : State) : Result.Runs (exec (decodeCb op2) s) s 4 := by
  unfold decodeCb
  split
  · exact exec_rot _ _ s ▸ rotateOperand_runs _ _ s
  · exact exec_bit _ _ s ▸ testBit_runs _ _ s
  · exact exec_res _ _ s ▸ resetBit_runs _ _ s
  · exact exec_set _ _ s ▸ setBit_runs _ _ s

theorem exec_decodeBlock3_runs (op b1 b2 : Byte) (s : State) : Result.Runs (exec (decodeBlock3 op b1 b2) s) s 4 := by
  unfold decodeBlock3
  split
  · split
    case h_1 | h_2 | h_3 | h_4 => exact exec_retCc _ s ▸ returnIf_runs _ s
    · exact storeATo_runs _ 2 (by decide) s
    · exact addSp_runs b1 s
    · exact loadAFrom_runs _ 2 (by decide) s
    · exact loadHlSpPlus_runs b1 s
  · split
    · exact exec_pop _ s ▸ popPair_runs _ s
    · exact returnFromCall_runs s
    · exact returnAndEnable_runs s
    · exact jumpHl_runs s
    · exact loadSpHl_runs s
  · split
    case h_1 | h_2 | h_3 | h_4 => exact exec_jpCc _ _ s ▸ jumpIf_runs _ _ s
    · exact storeATo_runs _ 1 (by decide) s
    · exact storeATo_runs _ 3 (by decide) s
    · exact loadAFrom_runs _ 1 (by decide) s
    · exact loadAFrom_runs _ 3 (by decide) s
  · split
    · exact jump_runs _ s
    · exact exec_decodeCb_runs b1 s
    case h_7 => exact disableInterrupts_runs s
    case h_8 => exact enableInterrupts_runs s
    all_goals exact Result.runs_fault _ s 4
  · split
    case h_1 | h_2 | h_3 | h_4 => exact exec_callCc _ _ s ▸ callIf_runs _ _ s
    all_goals exact Result.runs_fault _ s 4
  · split
    · exact exec_push _ s ▸ pushPair_runs _ s
    · exact call_runs _ s
    all_goals exact Result.runs_fault _ s 4
  · exact exec_aluN8 _ b1 s ▸ aluImm_runs _ b1 s
  · exact exec_rst _ s ▸ restart_runs _ s

/-- Whatever bytes stand at PC, the instruction they encode is a sequence of elementary moves that takes at least 4 ticks. -/
theorem exec_decodeWindow_runs (op b1 b2 : Byte) (s : State) : Result.Runs (exec (decodeWindow op b1 b2) s) s 4 := by
  unfold decodeWindow
  split
  · exact exec_decodeBlock0_runs op b1 b2 s
  · exact exec_decodeBlock1_runs op s
  · exact exec_decodeBlock2_runs op s
  · exact exec_decodeBlock3_runs op b1 b2 s

/-! ## The CPU step -/

theorem State.normalStep_runs (s : State) : s.normalStep.Runs s 4 := by
  have hpromote : s.RegsOnly s.promoteEi 0 := by constructor <;> simp
  exact ((exec_decodeWindow_runs _ _ _ s.promoteEi).after hpromote).andThen boundaryCheck_runs (le_refl 4)

theorem State.haltStep_runs (s : State) : s.haltStep.Runs s 4 := by
  unfold State.haltStep
  split
  · have hwake : s.RegsOnly (({ s with execState := .normal } : State).tick 4) 4 := by constructor <;> simp
    exact fun t ht => (State.Ran.of_regs hwake).trans (interruptCheck_runs _ t ht) (le_refl 4)
  · exact Result.runs_of_regs (by constructor <;> simp)

theorem State.stopStep_runs (s : State) : s.stopStep.Runs s 4 := by
  unfold State.stopStep
  split <;> exact Result.runs_of_regs (by constructor <;> simp)

theorem State.cpuStep_runs (s : State) : s.cpuStep.Runs s 4 := by
  unfold State.cpuStep
  split
  · exact s.normalStep_runs
  · exact s.haltStep_runs
  · exact s.stopStep_runs

end Sys2Proof.Machine

/-! ## What no step changes, and the count of the cycles (O59) -/

namespace Sys2Proof.Machine

/-- The parameters, the cartridge image and what is derived from it are the same in both states (R37, R44 (g)). -/
structure State.SameMachine (s t : State) : Prop where
  params : t.params = s.params
  rom : t.cart.rom = s.cart.rom
  kind : t.cart.kind = s.cart.kind
  romBanks : t.cart.romBanks = s.cart.romBanks
  ramSize : t.cart.ramSize = s.cart.ramSize

theorem State.SameMachine.trans {s t u : State} (h : s.SameMachine t) (h' : t.SameMachine u) : s.SameMachine u where
  params := h'.params.trans h.params
  rom := h'.rom.trans h.rom
  kind := h'.kind.trans h.kind
  romBanks := h'.romBanks.trans h.romBanks
  ramSize := h'.ramSize.trans h.ramSize

theorem State.SameMachine.of_cart {s t : State} (hp : t.params = s.params) (hc : t.cart = s.cart) : s.SameMachine t where
  params := hp
  rom := by rw [hc]
  kind := by rw [hc]
  romBanks := by rw [hc]
  ramSize := by rw [hc]

/-- A store changes the cartridge by its write handler, or not at all. -/
theorem State.store8_cart (s : State) (addr : Addr) (v : Byte) :
    (s.store8 addr v).cart = s.cart ∨ (s.store8 addr v).cart = s.cart.write addr.toNat v := by
  unfold State.store8
  cases region addr
  case romFixed | romSwitch | cartRam => exact .inr rfl
  case io =>
    rcases s.ioWrite_cases (addr.toNat - 0xFF00) v with ⟨_, h⟩ | ⟨_, h⟩ | ⟨_, h⟩ | ⟨_, h⟩ <;>
      exact .inl (by dsimp only; rw [h])
  all_goals exact .inl rfl

theorem State.store8_sameMachine (s : State) (addr : Addr) (v : Byte) : s.SameMachine (s.store8 addr v) := by
  obtain ⟨hkind, hrom, hbanks, hsize⟩ := s.cart.write_fixed addr.toNat v
  rcases s.store8_cart addr v with hc | hc
  · exact .of_cart (s.store8_params addr v) hc
  · exact ⟨s.store8_params addr v, hc ▸ hrom, hc ▸ hkind, hc ▸ hbanks, hc ▸ hsize⟩

theorem State.Ran.sameMachine {s t : State} {n : Nat} (h : s.Ran t n) : s.SameMachine t := by
  obtain ⟨hmoves, -⟩ := h
  induction hmoves with
  | refl => exact .of_cart rfl rfl
  | tail _ hmove ih =>
    refine ih.trans ?_
    cases hmove with
    | regs h => exact .of_cart h.params h.cart
    | store addr v => exact store8_sameMachine _ addr v

theorem Cart.resetMapper_fixed (cart : Cart) :
    cart.resetMapper.kind = cart.kind ∧ cart.resetMapper.rom = cart.rom ∧ cart.resetMapper.romBanks = cart.romBanks ∧
      cart.resetMapper.ramSize = cart.ramSize := by
  unfold Cart.resetMapper
  split <;> simp_all

/-- Every host move but `reset()` keeps the cartridge and the counters. -/
theorem State.hostMove_frame (s : State) {m : HostMove} (hm : m ≠ .reset) :
    (s.hostMove m).cycles = s.cycles ∧ (s.hostMove m).params = s.params ∧ (s.hostMove m).cart = s.cart := by
  cases m with
  | press | release | requestInterrupt => exact ⟨rfl, rfl, rfl⟩
  | externalIoWrite addr v =>
    simp only [State.hostMove, State.externalIoWrite]
    split <;> exact ⟨rfl, rfl, rfl⟩
  | reset => exact absurd rfl hm

theorem State.hostReset_sameMachine (s : State) : s.SameMachine s.hostReset := by
  obtain ⟨hkind, hrom, hbanks, hsize⟩ := s.cart.resetMapper_fixed
  exact ⟨rfl, hrom, hkind, hbanks, hsize⟩

theorem State.hostMove_sameMachine (s : State) (m : HostMove) : s.SameMachine (s.hostMove m) := by
  by_cases hm : m = .reset
  · exact hm ▸ s.hostReset_sameMachine
  · obtain ⟨-, hparams, hcart⟩ := s.hostMove_frame hm
    exact .of_cart hparams hcart

/-- What holds once the moves are taken off the schedule, and is kept by each of the moves due now, holds after them. -/
theorem State.takeHostMoves_induct {P : State → Prop} (s : State) (hsched : ∀ rest, P { s with schedule := rest })
    (hmove : ∀ u, P u → ∀ moves ∈ s.schedule.head?, ∀ m ∈ moves, P (u.hostMove m)) : P s.takeHostMoves := by
  unfold State.takeHostMoves
  split
  next => exact hsched s.schedule
  next moves rest hs =>
    exact List.foldlRecOn moves State.hostMove (hsched rest) fun u hu m hm => hmove u hu moves (by simp [hs]) m hm

theorem State.takeHostMoves_sameMachine (s : State) : s.SameMachine s.takeHostMoves :=
  s.takeHostMoves_induct (fun _ => .of_cart rfl rfl) fun u hu _ _ m _ => hu.trans (u.hostMove_sameMachine m)

theorem State.takeHostMoves_cycles {s : State} (h : ∀ moves ∈ s.schedule.head?, HostMove.reset ∉ moves) :
    s.takeHostMoves.cycles = s.cycles := by
  refine s.takeHostMoves_induct (P := fun u => u.cycles = s.cycles) (fun _ => rfl) fun u hu moves hmoves m hm => ?_
  have hne : m ≠ .reset := fun he => h moves hmoves (he ▸ hm)
  exact (u.hostMove_frame hne).1.trans hu

/-- The audio catch-up touches the audio unit and its due time only. -/
theorem State.apuCatchUp_frame (s : State) :
    s.apuCatchUp = { s with apu := s.apuCatchUp.apu, apuNext := s.apuCatchUp.apuNext } := by
  refine State.apuLoop_induct (fun u => u = { s with apu := u.apu, apuNext := u.apuNext }) ?_ s _ rfl
  intro u hu _
  unfold State.apuTurn
  rw [hu]

/-- A step is the host moves, a CPU step of at least 4 ticks, and the audio catch-up (R410). -/
theorem step_eq_next {s t : State} (h : step s = .next t) : ∃ u, s.takeHostMoves.Ran u 4 ∧ t = u.apuCatchUp := by
  obtain ⟨u, hu, ht⟩ := Result.andThen_eq_next.mp h
  exact ⟨u, State.cpuStep_runs _ u hu, by simpa using ht.symm⟩

/-- Settles O59: moves, CPU steps and audio steps all keep the cartridge and the parameters, and only a reset sets the cycle
counter back. -/
theorem stepsKeepImageAndParametersAndCountUp : Obligations.StepsKeepImageAndParametersAndCountUp := by
  intro s t h
  obtain ⟨u, hran, rfl⟩ := step_eq_next h
  have hsame := s.takeHostMoves_sameMachine.trans hran.sameMachine
  rw [u.apuCatchUp_frame]
  refine ⟨hsame.params, hsame.rom, hsame.kind, hsame.romBanks, hsame.ramSize, fun hnoReset => ?_⟩
  rw [← State.takeHostMoves_cycles hnoReset]
  exact hran.ticks

end Sys2Proof.Machine

/-! ## The cartridge keeps its ranges (R44 (b), R34, R90, R97) -/

namespace Sys2Proof.Machine

theorem Memory.mem_insertCell {m : Memory} {k : Nat} {v : Byte} {cell : Host.Cell} (h : cell ∈ Memory.insertCell m k v) :
    cell = (k, v) ∨ cell ∈ m := by
  induction m with
  | nil => exact .inl (List.mem_singleton.mp h)
  | cons head rest ih =>
    simp only [insertCell] at h
    split at h
    · exact List.mem_cons.mp h
    · split at h
      · exact (List.mem_cons.mp h).imp_right (List.mem_cons_of_mem _)
      · rcases List.mem_cons.mp h with hhead | hrest
        · exact .inr (hhead ▸ List.mem_cons_self)
        · exact (ih hrest).imp_right (List.mem_cons_of_mem _)

theorem Memory.mem_eraseCell {m : Memory} {k : Nat} {cell : Host.Cell} (h : cell ∈ Memory.eraseCell m k) : cell ∈ m := by
  induction m with
  | nil => exact h
  | cons head rest ih =>
    simp only [eraseCell] at h
    split at h
    · exact List.mem_cons_of_mem _ h
    · exact (List.mem_cons.mp h).elim (· ▸ List.mem_cons_self) fun hrest => List.mem_cons_of_mem _ (ih hrest)

/-- A write lists no new offset but its own. -/
theorem Memory.mem_write {id : StoreId} {m : Memory} {k : Nat} {v : Byte} {cell : Host.Cell}
    (h : cell ∈ Memory.write id m k v) : cell.1 = k ∨ cell ∈ m := by
  unfold write at h
  split at h
  · exact .inr (mem_eraseCell h)
  · exact (mem_insertCell h).imp_left (congrArg Prod.fst)

theorem bankSelect_range (v : Byte) : 1 ≤ (bankSelect v).toNat ∧ (bankSelect v).toNat ≤ 31 := by
  refine ⟨?_, by omega⟩
  unfold bankSelect
  split
  · decide
  next hne => exact Nat.pos_of_ne_zero fun h0 => hne (BitVec.eq_of_toNat_eq h0)

theorem bankOne_range : 1 ≤ (1 : BitVec 5).toNat ∧ (1 : BitVec 5).toNat ≤ 31 := by decide

/-- The cell of cartridge RAM that an address names exists (R100). -/
theorem Cart.ramOffset_lt {cart : Cart} (h : cart.ramPresent = true) (addr : Nat) : cart.ramOffset addr < cart.ramSize := by
  have hpos : 0 < cart.ramSize := by
    unfold Cart.ramPresent at h
    split at h
    · cases h
    · simp_all
  exact Nat.mod_lt _ hpos

theorem Cart.Ok.ramSize_le {cart : Cart} (h : cart.Ok) : cart.ramSize ≤ storeSize .cartRam := by
  have := h.ramSize
  simp only [storeSize]
  omega

theorem Cart.Ok.write {cart : Cart} (h : cart.Ok) (addr : Nat) (v : Byte) : (cart.write addr v).Ok := by
  unfold Cart.write
  split
  · exact h
  · split
    · exact { h with }
    · split
      · exact { h with bank := bankSelect_range v }
      · split
        · exact h
        · split
          · exact { h with mode := rfl }
          · split
            next hram =>
              have hlt := Cart.ramOffset_lt hram addr
              exact { h with
                ramWf := Memory.wf_write v h.ramWf (hlt.trans_le h.ramSize_le)
                ramFits := fun cell hcell => (Memory.mem_write hcell).elim (fun heq => heq.trans_lt hlt) (h.ramFits cell) }
            · exact h

theorem Cart.Ok.resetMapper {cart : Cart} (h : cart.Ok) : cart.resetMapper.Ok := by
  unfold Cart.resetMapper
  split
  · exact h
  · exact { h with bank := bankOne_range, mode := rfl }

/-- An image of whole banks, from 2 to 32 of them, makes a cartridge in its ranges. -/
theorem Cart.ofImage_ok {kind : CartKind} {ramSize : Nat} {image : List Byte} {ram : Memory}
    (hram : Memory.wf .cartRam ram = true) (hwhole : image.length % 0x4000 = 0) (hmin : 2 ≤ image.length / 0x4000)
    (hmax : image.length / 0x4000 ≤ 32) (hsize : ramSize = 0 ∨ ramSize = 2048 ∨ ramSize = 8192)
    (hromOnly : kind = .romOnly → image.length / 0x4000 = 2 ∧ ramSize = 0) : (Cart.ofImage kind ramSize image ram).Ok where
  romWf := Memory.wf_ofBytes .rom 0 image (by simp only [storeSize]; omega)
  ramWf := Memory.wf_filter _ hram
  ramFits := fun _ hcell => of_decide_eq_true (List.mem_filter.mp hcell).2
  bank := bankOne_range
  mode := rfl
  banks := ⟨hmin, hmax⟩
  ramSize := hsize
  romOnly := hromOnly

theorem Cart.loadMbc1_ok {ramSize : Nat} {image : List Byte} {ram : Memory} {cart : Cart}
    (h : Cart.loadMbc1 ramSize image ram = .ok cart) (hram : Memory.wf .cartRam ram = true) (hwhole : image.length % 0x4000 = 0)
    (hmin : 2 ≤ image.length / 0x4000) (hsize : ramSize = 0 ∨ ramSize = 2048 ∨ ramSize = 8192) : cart.Ok := by
  unfold Cart.loadMbc1 at h
  split at h
  · cases h
  · cases h
    exact Cart.ofImage_ok hram hwhole hmin (by omega) hsize nofun

theorem ramSizeOf_range {code : Byte} {n : Nat} (h : ramSizeOf code = some n) : n = 0 ∨ n = 2048 ∨ n = 8192 := by
  unfold ramSizeOf at h
  split_ifs at h <;> simp_all

/-- A cartridge that loads is in its ranges, whatever its RAM holds (R90). -/
theorem Cart.load_ok {image : List Byte} {ram : Memory} {cart : Cart} (h : Cart.load image ram = .ok cart)
    (hram : Memory.wf .cartRam ram = true) : cart.Ok := by
  unfold Cart.load at h
  split at h
  · cases h
  next hlength =>
    obtain ⟨hmin, hwhole⟩ : 2 ≤ image.length / 0x4000 ∧ image.length % 0x4000 = 0 := by omega
    split at h
    · split at h
      next hbanks =>
        cases h
        exact Cart.ofImage_ok hram hwhole hmin (by omega) (.inl rfl) fun _ => ⟨hbanks, rfl⟩
      · cases h
    · split at h
      · exact Cart.loadMbc1_ok h hram hwhole hmin (.inl rfl)
      · split at h
        · split at h
          next hsize => exact Cart.loadMbc1_ok h hram hwhole hmin (ramSizeOf_range hsize)
          · cases h
        · cases h

theorem Cart.reset_ok : Cart.reset.Ok where
  romWf := rfl
  ramWf := rfl
  ramFits := nofun
  bank := bankOne_range
  mode := rfl
  banks := by decide
  ramSize := .inl rfl
  romOnly := fun _ => ⟨rfl, rfl⟩

end Sys2Proof.Machine

/-! ## The audio unit keeps its ranges (R44 (c) to (f), R342, R357) -/

namespace Sys2Proof.Machine

/-! ### The registers -/

theorem Apu.reg_setReg {apu : Apu} (h : Memory.wf .apu apu.regs = true) (k j : Nat) (v : Byte) :
    (apu.setReg k v).reg j = if j = k then v else apu.reg j :=
  Memory.read_write h k j v

theorem Apu.reg_setReg_other (apu : Apu) {k j : Nat} (v : Byte) (hj : j ≠ k) : (apu.setReg k v).reg j = apu.reg j :=
  Memory.read_write_other .apu apu.regs v hj

theorem Apu.power_setReg (apu : Apu) {k : Nat} (v : Byte) (hk : k ≠ 0x16) : (apu.setReg k v).power = apu.power := by
  simp only [Apu.power, apu.reg_setReg_other v hk.symm]

/-- A channel's DAC is told by its own register alone (R341). -/
theorem Apu.dacOn_congr {apu apu' : Apu} {n : Chan} (h : apu'.reg (dacReg n) = apu.reg (dacReg n)) :
    apu'.dacOn n = apu.dacOn n := by
  cases n with
  | ch3 => exact congrArg (BitVec.getLsbD · 7) h
  | ch1 | ch2 | ch4 => simp only [Apu.dacOn, h]

theorem Apu.dacOn_setReg_other (apu : Apu) {k : Nat} {n : Chan} (v : Byte) (hk : dacReg n ≠ k) :
    (apu.setReg k v).dacOn n = apu.dacOn n :=
  dacOn_congr (apu.reg_setReg_other v hk)

theorem dacChan_dacReg (n : Chan) : dacChan (dacReg n) = some n := by
  cases n <;> rfl

theorem dacReg_ne_of_dacChan {k : Nat} (h : dacChan k = none) (n : Chan) : dacReg n ≠ k := by
  rintro rfl
  simp [dacChan_dacReg] at h

theorem dacReg_ne_lengthReg (n m : Chan) : dacReg n ≠ lengthReg m := by
  cases n <;> cases m <;> decide

theorem dacReg_ne_controlReg (n m : Chan) : dacReg n ≠ controlReg m := by
  cases n <;> cases m <;> decide

theorem dacReg_injective {n m : Chan} (h : dacReg n = dacReg m) : n = m :=
  Option.some.inj ((dacChan_dacReg n).symm.trans (h ▸ dacChan_dacReg m))

theorem lengthLoad_le (n : Chan) (v : Byte) : lengthLoad n v ≤ lenMax n := by
  cases n <;> simp only [lengthLoad, lenMax] <;> omega

/-! ### One update of the unit at a time -/

section updates

variable {apu : Apu} (h : apu.Ok)
include h

/-- The write of a register other than NR52: it is a channel's DAC register only if it leaves the DAC of a channel that is on,
and while the unit is off it is wave memory or a length register without duty bits. -/
theorem Apu.Ok.setReg {k : Nat} {v : Byte} (hk : k < 0x30) (h16 : k ≠ 0x16)
    (hdac : ∀ n, dacReg n = k → apu.chOn n = true → (apu.setReg k v).dacOn n = true)
    (hoff : apu.power = false → 0x20 ≤ k ∨ lengthChan k ≠ none ∧ (k = 0x01 ∨ k = 0x06 → v.toNat < 64)) :
    (apu.setReg k v).Ok where
  regsWf := Memory.wf_write v h.regsWf hk
  fs := h.fs
  len := h.len
  env1 := h.env1
  env2 := h.env2
  env4 := h.env4
  sweep := h.sweep
  onDac n hn := by
    obtain ⟨hdacOn, hpower⟩ := h.onDac n hn
    refine ⟨?_, apu.power_setReg v h16 ▸ hpower⟩
    by_cases hreg : dacReg n = k
    · exact hdac n hreg hn
    · rw [apu.dacOn_setReg_other v hreg, hdacOn]
  nr52 := by rw [apu.reg_setReg_other v h16.symm, h.nr52]
  offZero hpower j hj hlen := by
    rw [apu.power_setReg v h16] at hpower
    have hjk : j ≠ k := by
      rintro rfl
      rcases hoff hpower with hwave | ⟨hsome, -⟩
      · omega
      · exact hsome hlen
    rw [apu.reg_setReg_other v hjk, h.offZero hpower j hj hlen]
  offDuty hpower := by
    rw [apu.power_setReg v h16] at hpower
    obtain ⟨hduty1, hduty2⟩ := h.offDuty hpower
    have hlow : ∀ j, j = 0x01 ∨ j = 0x06 → (apu.reg j).toNat < 64 → ((apu.setReg k v).reg j).toNat < 64 := by
      intro j hj hold
      rw [Apu.reg_setReg h.regsWf]
      split
      next hjk =>
        rcases hoff hpower with hwave | ⟨-, hv⟩
        · omega
        · exact hv (hjk ▸ hj)
      · exact hold
    exact ⟨hlow 0x01 (.inl rfl) hduty1, hlow 0x06 (.inr rfl) hduty2⟩

theorem Apu.Ok.setReg_on {k : Nat} (v : Byte) (hpower : apu.power = true) (hk : k < 0x30) (h16 : k ≠ 0x16)
    (hdac : ∀ n, dacReg n ≠ k) : (apu.setReg k v).Ok :=
  h.setReg hk h16 (fun n hn => absurd hn (hdac n)) (fun hoff => by simp [hpower] at hoff)

theorem Apu.Ok.setChOn {n : Chan} {v : Bool} (hv : v = true → apu.dacOn n = true ∧ apu.power = true) :
    (apu.setChOn n v).Ok := by
  have hon : ∀ m, (apu.setChOn n v).chOn m = true → apu.dacOn m = true ∧ apu.power = true := fun m hm => by
    have hcases : v = true ∧ m = n ∨ apu.chOn m = true := by
      cases n <;> cases m <;> simp_all [Apu.setChOn, Apu.chOn]
    rcases hcases with ⟨hvt, rfl⟩ | hold
    · exact hv hvt
    · exact h.onDac m hold
  cases n <;> exact { h with onDac := hon }

theorem Apu.Ok.setChOn_false (n : Chan) : (apu.setChOn n false).Ok := h.setChOn nofun

theorem Apu.Ok.setLen {n : Chan} {x : Nat} (hx : x ≤ lenMax n) : (apu.setLen n x).Ok := by
  have hlen : ∀ m, (apu.setLen n x).len m ≤ lenMax m := fun m => by
    have := h.len m
    cases n <;> cases m <;> simp_all [Apu.setLen, Apu.len, lenMax]
  cases n <;> exact { h with len := hlen }

theorem Apu.Ok.withSweep {sweep : Sweep} (hsweep : sweep.Ok) : ({ apu with sweep := sweep } : Apu).Ok :=
  { h with sweep := hsweep }

end updates

/-! ### The write handler (R344 to R349) -/

theorem Apu.setChOn_setReg (apu : Apu) (n : Chan) (x : Bool) (k : Nat) (v : Byte) :
    (apu.setReg k v).setChOn n x = (apu.setChOn n x).setReg k v := by
  cases n <;> rfl

theorem Apu.chOn_setReg (apu : Apu) (n : Chan) (k : Nat) (v : Byte) : (apu.setReg k v).chOn n = apu.chOn n := by
  cases n <;> rfl

theorem Apu.setChOn_regs (apu : Apu) (n : Chan) (x : Bool) : (apu.setChOn n x).regs = apu.regs := by
  cases n <;> rfl

theorem Apu.setLen_regs (apu : Apu) (n : Chan) (x : Nat) : (apu.setLen n x).regs = apu.regs := by
  cases n <;> rfl

theorem Apu.power_congr {apu apu' : Apu} (h : apu'.regs = apu.regs) : apu'.power = apu.power := by
  simp only [Apu.power, Apu.reg, h]

theorem Apu.chOn_setChOn_false (apu : Apu) (n : Chan) : (apu.setChOn n false).chOn n = false := by
  cases n <;> rfl

theorem Apu.Ok.writeLength {apu : Apu} (h : apu.Ok) (hpower : apu.power = true) (n : Chan) (v : Byte) :
    (apu.writeLength n v).Ok := by
  have hk : lengthReg n < 0x30 ∧ lengthReg n ≠ 0x16 := by cases n <;> decide
  exact (h.setReg_on v hpower hk.1 hk.2 fun m => dacReg_ne_lengthReg m n).setLen (lengthLoad_le n v)

/-- With the unit off the length registers of channels 1 and 2 get no duty bits. -/
theorem Apu.Ok.setLengthReg_off {apu : Apu} (h : apu.Ok) {n : Chan} {v : Byte}
    (hv : lengthReg n = 0x01 ∨ lengthReg n = 0x06 → v.toNat < 64) :
    (apu.setReg (lengthReg n) v).Ok :=
  h.setReg (by cases n <;> decide) (by cases n <;> decide) (fun m hm => absurd hm (dacReg_ne_lengthReg m n)) fun _ =>
    .inr ⟨by cases n <;> decide, hv⟩

theorem Apu.Ok.writeLengthOff {apu : Apu} (h : apu.Ok) (n : Chan) (v : Byte) : (apu.writeLengthOff n v).Ok := by
  have hlow : (v &&& 0x3F).toNat < 64 := by
    rw [BitVec.toNat_and]
    exact Nat.and_lt_two_pow (n := 6) _ (by decide)
  cases n with
  | ch1 => exact (h.setLengthReg_off (n := .ch1) fun _ => hlow).setLen (lengthLoad_le .ch1 v)
  | ch2 => exact (h.setLengthReg_off (n := .ch2) fun _ => hlow).setLen (lengthLoad_le .ch2 v)
  | ch3 => exact (h.setLengthReg_off (n := .ch3) nofun).setLen (lengthLoad_le .ch3 v)
  | ch4 => exact (h.setLengthReg_off (n := .ch4) nofun).setLen (lengthLoad_le .ch4 v)

theorem Apu.Ok.writeDac {apu : Apu} (h : apu.Ok) (hpower : apu.power = true) (n : Chan) (v : Byte) : (apu.writeDac n v).Ok := by
  have hk : dacReg n < 0x30 ∧ dacReg n ≠ 0x16 := by cases n <;> decide
  unfold Apu.writeDac
  dsimp only
  split
  next hdac =>
    exact h.setReg hk.1 hk.2 (fun m hm _ => dacReg_injective hm ▸ hdac) fun hoff => by simp [hpower] at hoff
  · rw [apu.setChOn_setReg]
    refine (h.setChOn_false n).setReg hk.1 hk.2 (fun m hm hon => ?_) fun hoff => ?_
    · rw [dacReg_injective hm, apu.chOn_setChOn_false] at hon
      cases hon
    · rw [Apu.power_congr (apu.setChOn_regs n false), hpower] at hoff
      cases hoff

theorem Apu.Ok.writeNr10 {apu : Apu} (h : apu.Ok) (hpower : apu.power = true) (v : Byte) : (apu.writeNr10 v).Ok := by
  have hstored : (apu.setReg 0x00 v).Ok := h.setReg_on v hpower (by decide) (by decide) fun n => by cases n <;> decide
  unfold Apu.writeNr10
  dsimp only
  split
  · exact hstored.setChOn_false .ch1
  · exact hstored

/-! ### The trigger (R350) -/

theorem Apu.Ok.triggerLength {apu : Apu} (h : apu.Ok) (p : Params) (n : Chan) : (apu.triggerLength p n).Ok := by
  unfold Apu.triggerLength
  split
  · exact h.setLen (lengthLoad_le n _)
  · exact h

theorem Apu.triggerLength_regs (p : Params) (apu : Apu) (n : Chan) : (apu.triggerLength p n).regs = apu.regs := by
  unfold Apu.triggerLength
  split
  · exact apu.setLen_regs n _
  · rfl

/-- A three-bit pace and the countdown loaded from it, 8 standing for 0, are in their ranges. -/
theorem pace_range (x : BitVec 3) : x.toNat ≤ 7 ∧ (if x.toNat ≠ 0 then x.toNat else 8) ≤ 8 := by
  have := x.isLt
  split <;> omega

theorem Envelope.load_ok (v : Byte) : (Envelope.load v).Ok where
  pace := (pace_range _).1
  cnt := (pace_range _).2
  vol := by simp only [Envelope.load]; omega

theorem Apu.Ok.triggerEnvelope {apu : Apu} (h : apu.Ok) (n : Chan) : (apu.triggerEnvelope n).Ok := by
  cases n with
  | ch1 => exact { h with env1 := Envelope.load_ok _ }
  | ch2 => exact { h with env2 := Envelope.load_ok _ }
  | ch3 => exact h
  | ch4 => exact { h with env4 := Envelope.load_ok _ }

theorem Apu.triggerEnvelope_regs (apu : Apu) (n : Chan) : (apu.triggerEnvelope n).regs = apu.regs := by
  cases n <;> rfl

theorem Apu.Ok.triggerSweep {apu : Apu} (h : apu.Ok) (n : Chan) : (apu.triggerSweep n).Ok := by
  have hfreq : apu.frequency1 ≤ 2047 := by
    have : apu.frequency1 < 2 ^ 11 := BitVec.isLt _
    omega
  cases n with
  | ch1 => exact h.withSweep ⟨(pace_range _).1, (pace_range _).2, hfreq⟩
  | ch2 | ch3 | ch4 => exact h

theorem Apu.triggerSweep_regs (apu : Apu) (n : Chan) : (apu.triggerSweep n).regs = apu.regs := by
  cases n <;> rfl

theorem Apu.Ok.triggerEnable {apu : Apu} (h : apu.Ok) (hpower : apu.power = true) (n : Chan) : (apu.triggerEnable n).Ok :=
  h.setChOn fun hdac => ⟨hdac, hpower⟩

theorem Apu.Ok.recordNegate {apu : Apu} (h : apu.Ok) : apu.recordNegate.Ok := by
  unfold Apu.recordNegate
  split
  · exact h.withSweep { h.sweep with }
  · exact h

theorem Apu.recordNegate_regs (apu : Apu) : apu.recordNegate.regs = apu.regs := by
  unfold Apu.recordNegate
  split <;> rfl

theorem Apu.Ok.triggerCheck {apu : Apu} (h : apu.Ok) (n : Chan) : (apu.triggerCheck n).Ok := by
  cases n with
  | ch1 =>
    unfold Apu.triggerCheck
    dsimp only
    split
    · split
      · exact h.recordNegate.setChOn_false .ch1
      · exact h.recordNegate
    · exact h
  | ch2 | ch3 | ch4 => exact h

theorem Apu.Ok.trigger {apu : Apu} (h : apu.Ok) (hpower : apu.power = true) (p : Params) (n : Chan) : (apu.trigger p n).Ok := by
  have hregs : (((apu.triggerLength p n).triggerEnvelope n).triggerSweep n).regs = apu.regs := by
    rw [Apu.triggerSweep_regs, Apu.triggerEnvelope_regs, Apu.triggerLength_regs]
  have hloaded := ((h.triggerLength p n).triggerEnvelope n).triggerSweep n
  exact (hloaded.triggerEnable (Apu.power_congr hregs ▸ hpower) n).triggerCheck n

theorem Apu.Ok.writeControl {apu : Apu} (h : apu.Ok) (hpower : apu.power = true) (p : Params) (n : Chan) (v : Byte) :
    (apu.writeControl p n v).Ok := by
  have h16 : controlReg n ≠ 0x16 := by cases n <;> decide
  have hstored : (apu.setReg (controlReg n) v).Ok :=
    h.setReg_on v hpower (by cases n <;> decide) h16 fun m => dacReg_ne_controlReg m n
  unfold Apu.writeControl
  dsimp only
  split
  · exact hstored.trigger (apu.power_setReg v h16 ▸ hpower) p n
  · exact hstored

/-! ### NR52 and the power (R345) -/

/-- Clearing registers changes nothing but the register file. -/
theorem Apu.clearRegs_eq (apu : Apu) (lo n : Nat) : ∃ regs, apu.clearRegs lo n = { apu with regs := regs } := by
  induction n generalizing apu lo with
  | zero => exact ⟨apu.regs, rfl⟩
  | succ m ih => exact ih (apu.setReg lo 0) (lo + 1)

theorem Apu.clearRegs_wf {apu : Apu} (h : Memory.wf .apu apu.regs = true) {lo n : Nat} (hn : lo + n ≤ 0x30) :
    Memory.wf .apu (apu.clearRegs lo n).regs = true := by
  induction n generalizing apu lo with
  | zero => exact h
  | succ m ih => exact ih (Memory.wf_write 0 h (by simp only [storeSize]; omega)) (by omega)

theorem Apu.clearRegs_reg {apu : Apu} (h : Memory.wf .apu apu.regs = true) {lo n : Nat} (hn : lo + n ≤ 0x30) (j : Nat) :
    (apu.clearRegs lo n).reg j = if lo ≤ j ∧ j < lo + n then 0 else apu.reg j := by
  induction n generalizing apu lo with
  | zero => simp [Apu.clearRegs]
  | succ m ih =>
    have hwf : Memory.wf .apu (apu.setReg lo 0).regs = true := Memory.wf_write 0 h (by simp only [storeSize]; omega)
    rw [Apu.clearRegs, ih hwf (by omega), Apu.reg_setReg h]
    by_cases hj : j = lo
    · simp [hj]
    · have hiff : lo + 1 ≤ j ∧ j < lo + 1 + m ↔ lo ≤ j ∧ j < lo + (m + 1) := by omega
      simp only [hj, hiff, if_false]

/-- Contents of the register file with every register below NR52 zero. -/
structure Apu.LowZero (apu : Apu) : Prop where
  wf : Memory.wf .apu apu.regs = true
  zero : ∀ k < 0x16, apu.reg k = 0

theorem Apu.clearRegs_lowZero {apu : Apu} (h : Memory.wf .apu apu.regs = true) : (apu.clearRegs 0x00 0x16).LowZero where
  wf := clearRegs_wf h (by decide)
  zero k hk := by rw [clearRegs_reg h (by decide), if_pos ⟨k.zero_le, by omega⟩]

theorem Apu.LowZero.clearRegs {apu : Apu} (h : apu.LowZero) {lo n : Nat} (hn : lo + n ≤ 0x30) :
    (apu.clearRegs lo n).LowZero where
  wf := clearRegs_wf h.wf hn
  zero k hk := by rw [clearRegs_reg h.wf hn, h.zero k hk, ite_self]

/-- The power-off changes the registers and the channels' status only. -/
theorem Apu.powerOff_eq (p : Params) (apu : Apu) :
    apu.powerOff p =
      { apu with regs := (apu.powerOff p).regs, on1 := false, on2 := false, on3 := false, on4 := false } := by
  obtain ⟨low, hlow⟩ := clearRegs_eq { apu with on1 := false, on2 := false, on3 := false, on4 := false } 0x00 0x16
  unfold Apu.powerOff
  simp only [hlow]
  split
  · obtain ⟨wave, hwave⟩ := clearRegs_eq
      { apu with regs := low, on1 := false, on2 := false, on3 := false, on4 := false } 0x20 0x10
    rw [hwave]
    rfl
  · rfl

/-- The power-off clears every register up to NR52; wave memory is kept or cleared. -/
theorem Apu.powerOff_reg (p : Params) {apu : Apu} (h : Memory.wf .apu apu.regs = true) :
    Memory.wf .apu (apu.powerOff p).regs = true ∧ ∀ k ≤ 0x16, (apu.powerOff p).reg k = 0 := by
  have hset : ∀ t : Apu, t.LowZero →
      Memory.wf .apu (t.setReg 0x16 0x00).regs = true ∧ ∀ k ≤ 0x16, (t.setReg 0x16 0x00).reg k = 0 := fun t ht => by
    refine ⟨Memory.wf_write (k := 0x16) 0x00 ht.wf (by decide), fun k hk => ?_⟩
    rw [reg_setReg ht.wf]
    split
    · rfl
    · exact ht.zero k (by omega)
  have hlow := clearRegs_lowZero (apu := { apu with on1 := false, on2 := false, on3 := false, on4 := false }) h
  unfold Apu.powerOff
  split
  · exact hset _ (hlow.clearRegs (by decide))
  · exact hset _ hlow

theorem Apu.Ok.silenced {apu : Apu} (h : apu.Ok) {regs : Memory} (hwf : Memory.wf .apu regs = true)
    (hzero : ∀ k ≤ 0x16, Memory.read .apu regs k = 0) :
    ({ apu with regs := regs, on1 := false, on2 := false, on3 := false, on4 := false } : Apu).Ok :=
  { h with
    regsWf := hwf
    onDac := fun n hn => by cases n <;> cases hn
    nr52 := by rw [Apu.reg, hzero 0x16 (by decide)]; rfl
    offZero := fun _ k hk _ => hzero k (by omega)
    offDuty := fun _ => by
      rw [Apu.reg, Apu.reg, hzero 0x01 (by decide), hzero 0x06 (by decide)]
      decide }

theorem Apu.Ok.powerOff {apu : Apu} (h : apu.Ok) (p : Params) : (apu.powerOff p).Ok := by
  obtain ⟨hwf, hzero⟩ := Apu.powerOff_reg p h.regsWf
  rw [Apu.powerOff_eq]
  exact h.silenced hwf hzero

theorem Apu.Ok.chOn_false {apu : Apu} (h : apu.Ok) (hpower : apu.power = false) (n : Chan) : apu.chOn n = false := by
  by_contra hon
  have := (h.onDac n (by simpa using hon)).2
  simp [hpower] at this

/-- Switching the power on changes NR52 alone. -/
theorem Apu.Ok.powerOn {apu : Apu} (h : apu.Ok) (hpower : apu.power = false) : (apu.setReg 0x16 0x80).Ok := by
  have hreg : (apu.setReg 0x16 0x80).reg 0x16 = 0x80 := by rw [Apu.reg_setReg h.regsWf, if_pos rfl]
  have hon : (apu.setReg 0x16 0x80).power = true := by rw [Apu.power, hreg]; rfl
  exact { h with
    regsWf := Memory.wf_write (k := 0x16) 0x80 h.regsWf (by decide)
    onDac := fun n hn => absurd ((apu.chOn_setReg n 0x16 0x80).symm.trans hn) (by simp [h.chOn_false hpower n])
    nr52 := by rw [hreg]; rfl
    offZero := fun hoff => absurd hon (Bool.eq_false_iff.mp hoff)
    offDuty := fun hoff => absurd hon (Bool.eq_false_iff.mp hoff) }

theorem Apu.Ok.writeNr52 {apu : Apu} (h : apu.Ok) (p : Params) (v : Byte) : (apu.writeNr52 p v).Ok := by
  unfold Apu.writeNr52
  split
  · exact h.powerOff p
  next hpower => exact h.powerOn hpower
  · exact h
  · exact h

theorem Apu.Ok.writeOn {apu : Apu} (h : apu.Ok) (hpower : apu.power = true) (p : Params) {k : Nat} (hk : k < 0x16) (v : Byte) :
    (apu.writeOn p k v).Ok := by
  unfold Apu.writeOn
  split
  · exact h.writeLength hpower _ v
  · exact h.writeDac hpower _ v
  · exact h.writeControl hpower p _ v
  next hdac _ =>
    split
    · exact h.writeNr10 hpower v
    · exact h.setReg_on v hpower (by omega) (by omega) (dacReg_ne_of_dacChan hdac)

theorem Apu.Ok.writeOff {apu : Apu} (h : apu.Ok) (k : Nat) (v : Byte) : (apu.writeOff k v).Ok := by
  unfold Apu.writeOff
  split
  · exact h.writeLengthOff _ v
  · exact h

/-- A write to the audio window keeps the unit in its ranges. -/
theorem Apu.Ok.write {apu : Apu} (h : apu.Ok) (p : Params) {k : Nat} (hk : k < 0x30) (v : Byte) : (apu.write p k v).Ok := by
  unfold Apu.write
  split
  next hwave =>
    have hdac : ∀ n, dacReg n ≠ k := fun n => by cases n <;> simp only [dacReg] <;> omega
    exact h.setReg hk (by omega) (fun n hn => absurd hn (hdac n)) fun _ => .inl hwave
  · split
    · exact h.writeNr52 p v
    · split
      · exact h
      · split
        next hpower => exact h.writeOn hpower p (by omega) v
        · exact h.writeOff k v

/-! ### The frame sequencer (R352 to R356) -/

theorem Apu.Ok.ite {c : Prop} [Decidable c] {x y : Apu} (hx : c → x.Ok) (hy : ¬c → y.Ok) : (if c then x else y).Ok := by
  split
  next hc => exact hx hc
  next hc => exact hy hc

theorem Apu.Ok.lengthTickOf {apu : Apu} (h : apu.Ok) (n : Chan) : (apu.lengthTickOf n).Ok := by
  have hcounted : (if apu.len n < lenMax n then apu.setLen n (apu.len n + 1) else apu).Ok := .ite h.setLen fun _ => h
  unfold Apu.lengthTickOf
  exact .ite (fun _ => .ite (fun _ => hcounted.setChOn_false n) fun _ => hcounted) fun _ => h

theorem Apu.Ok.lengthTick {apu : Apu} (h : apu.Ok) : apu.lengthTick.Ok :=
  (((h.lengthTickOf .ch1).lengthTickOf .ch2).lengthTickOf .ch3).lengthTickOf .ch4

/-- Where `SweepCalc()` tells no overflow, the new frequency is in its range: a subtraction only lowers it (R355). -/
theorem Apu.sweepNew_le {apu : Apu} (hfreq : apu.sweep.freq ≤ 2047) (hovf : apu.sweepOverflow = false) :
    apu.sweepNew ≤ 2047 := by
  by_cases hdown : apu.sweepDown = true
  · simp only [Apu.sweepNew, hdown, if_true]
    exact (Nat.sub_le _ _).trans hfreq
  · simpa [Apu.sweepOverflow, hdown] using hovf

theorem Apu.Ok.writeBackFrequency {apu : Apu} (h : apu.Ok) (hpower : apu.power = true) {new : Nat} (hnew : new ≤ 2047) :
    (apu.writeBackFrequency new).Ok := by
  have hlow : ∀ v, (({ apu with sweep := { apu.sweep with freq := new } } : Apu).setReg 0x03 v).Ok := fun v =>
    (h.withSweep (sweep := { apu.sweep with freq := new }) { h.sweep with freq := hnew }).setReg_on v hpower
      (by decide) (by decide) fun n => by cases n <;> decide
  refine (hlow _).setReg_on _ ?_ (by decide) (by decide) fun n => by cases n <;> decide
  rw [Apu.power_setReg _ _ (by decide)]
  exact hpower

theorem Apu.Ok.sweepStep {apu : Apu} (h : apu.Ok) (hpower : apu.power = true) {pace : Nat} (hpace : pace ≤ 7) :
    (apu.sweepStep pace).Ok := by
  have hloaded := h.withSweep (sweep := { apu.sweep with pace := pace, cnt := pace })
    { h.sweep with pace := hpace, cnt := hpace.trans (by decide) }
  unfold Apu.sweepStep
  dsimp only
  split
  · exact hloaded.recordNegate.setChOn_false .ch1
  next hovf =>
    split
    · refine hloaded.recordNegate.writeBackFrequency ?_ (Apu.sweepNew_le h.sweep.freq (by simpa using hovf))
      rw [Apu.power_congr (Apu.recordNegate_regs _)]
      exact hpower
    · exact hloaded.recordNegate

theorem Apu.Ok.sweepTick {apu : Apu} (h : apu.Ok) : apu.sweepTick.Ok := by
  unfold Apu.sweepTick
  split
  next hon =>
    have hpower : apu.power = true := (h.onDac .ch1 (by simp_all [Apu.chOn])).2
    have hcounted := h.withSweep (sweep := { apu.sweep with cnt := apu.sweep.cnt - 1 })
      { h.sweep with cnt := (Nat.sub_le _ _).trans h.sweep.cnt }
    dsimp only
    split
    · split
      · exact hcounted.sweepStep hpower (pace_range _).1
      · exact h.withSweep { h.sweep with cnt := le_refl 8 }
    · exact hcounted
  · exact h

theorem Envelope.Ok.tick {env : Envelope} (h : env.Ok) : env.tick.Ok := by
  obtain ⟨hpace, hcnt, hvol⟩ := h
  unfold Envelope.tick
  dsimp only
  split
  · split
    · refine ⟨hpace, hpace.trans (by decide), ?_⟩
      dsimp only
      split_ifs <;> omega
    · exact ⟨hpace, le_refl 8, hvol⟩
  · exact ⟨hpace, by dsimp only; omega, hvol⟩

theorem Apu.Ok.envelopeTick {apu : Apu} (h : apu.Ok) : apu.envelopeTick.Ok := by
  have htick : ∀ (on : Bool) {env : Envelope}, env.Ok → (if on then env.tick else env).Ok := fun on env henv => by
    split
    · exact henv.tick
    · exact henv
  exact { h with env1 := htick _ h.env1, env2 := htick _ h.env2, env4 := htick _ h.env4 }

/-- A step of the frame sequencer keeps the unit in its ranges. -/
theorem Apu.Ok.step {apu : Apu} (h : apu.Ok) : apu.step.Ok := by
  have hcounted : ({ apu with fs := (apu.fs + 1) % 8 } : Apu).Ok := { h with fs := by dsimp only; omega }
  have hlengthed : (if (apu.fs + 1) % 8 % 2 = 0 then ({ apu with fs := (apu.fs + 1) % 8 } : Apu).lengthTick
      else { apu with fs := (apu.fs + 1) % 8 }).Ok := .ite (fun _ => hcounted.lengthTick) fun _ => hcounted
  have hswept := Apu.Ok.ite (c := (apu.fs + 1) % 8 = 2 ∨ (apu.fs + 1) % 8 = 6) (fun _ => hlengthed.sweepTick) fun _ => hlengthed
  exact .ite (c := (apu.fs + 1) % 8 = 7) (fun _ => hswept.envelopeTick) fun _ => hswept

/-! ### Reset (R41, R400) -/

/-- A listing of wave memory alone leaves every register below it at its reset value. -/
theorem Memory.lookup_filter_none {m : Memory} {f : Host.Cell → Bool} {k : Nat} (hk : ∀ v, f (k, v) = false) :
    Memory.lookup (m.filter f) k = none := by
  induction m with
  | nil => rfl
  | cons cell rest ih =>
    obtain ⟨j, v⟩ := cell
    rw [List.filter_cons]
    split
    next hf =>
      have hjk : j ≠ k := by
        rintro rfl
        simp [hk v] at hf
      simpa [Memory.lookup, hjk] using ih
    · exact ih

theorem Apu.resetUnit_reg (p : Params) (apu : Apu) {k : Nat} (hk : k < 0x20) : (apu.resetUnit p).reg k = apuReset k := by
  have hnone : Memory.lookup (apu.resetUnit p).regs k = none :=
    Memory.lookup_filter_none fun v => by simp; omega
  simp only [Apu.reg, Memory.read, hnone, Option.getD_none, unlisted]

theorem Apu.resetUnit_power (p : Params) (apu : Apu) : (apu.resetUnit p).power = true := by
  rw [Apu.power, apu.resetUnit_reg p (by decide)]
  rfl

theorem Envelope.zero_ok : Envelope.zero.Ok := by
  constructor <;> decide

theorem Sweep.zero_ok : Sweep.zero.Ok := by
  constructor <;> decide

theorem Apu.resetUnit_ok (p : Params) {apu : Apu} (hwf : Memory.wf .apu apu.regs = true) : (apu.resetUnit p).Ok where
  regsWf := Memory.wf_filter _ hwf
  fs := Nat.le_of_lt_succ p.fsReset.isLt
  len n := by cases n <;> exact Nat.zero_le _
  env1 := Envelope.zero_ok
  env2 := Envelope.zero_ok
  env4 := Envelope.zero_ok
  sweep := Sweep.zero_ok
  onDac n hn := by
    cases n with
    | ch1 =>
      refine ⟨?_, apu.resetUnit_power p⟩
      simp only [Apu.dacOn, dacReg, apu.resetUnit_reg p (show 0x02 < 0x20 by decide)]
      rfl
    | ch2 | ch3 | ch4 => cases hn
  nr52 := by
    rw [apu.resetUnit_reg p (by decide)]
    rfl
  offZero hoff := by simp [apu.resetUnit_power p] at hoff
  offDuty hoff := by simp [apu.resetUnit_power p] at hoff

end Sys2Proof.Machine

/-! ## The invariant of the machine (O57, O58, O56)

A CPU step breaks the clause on the audio due time until the audio unit has caught up (R358), so the moves of a step are
shown to keep the other clauses. -/

namespace Sys2Proof.Machine

/-- The invariant but for its clause on the audio due time: the state meets it once the next audio step is put off. -/
def State.InvButDue (s : State) : Prop :=
  ({ s with apuNext := s.cycles + 1 } : State).Inv

theorem State.Inv.butDue {s : State} (h : s.Inv) : s.InvButDue :=
  { h with due := Nat.lt_succ_self _ }

theorem State.InvButDue.inv {s : State} (h : s.InvButDue) (hdue : s.cycles < s.apuNext) : s.Inv :=
  { h with due := hdue }

/-! ### The offsets of the regions (R61) -/

/-- An address of region `r` names a cell that the region's store has. -/
def Region.Fits (r : Region) (addr : Nat) : Prop :=
  match r with
  | .vram => addr - 0x8000 < storeSize .vram
  | .wram => addr - 0xC000 < storeSize .wram
  | .echo => addr - 0xE000 < storeSize .wram
  | .oam => addr - 0xFE00 < storeSize .oam
  | .io => addr - 0xFF00 < storeSize .io
  | .hram => addr - 0xFF80 < storeSize .hram
  | .romFixed | .romSwitch | .cartRam | .unusable | .ie => True

theorem Region.fits_ite {c : Prop} [Decidable c] {r r' : Region} {n : Nat} (h : c → r.Fits n) (h' : ¬c → r'.Fits n) :
    (if c then r else r').Fits n := by
  split
  next hc => exact h hc
  next hc => exact h' hc

theorem region_fits (addr : Addr) : (region addr).Fits addr.toNat := by
  have hmax := addr.isLt
  unfold region
  refine Region.fits_ite (fun _ => trivial) fun _ => Region.fits_ite (fun _ => trivial) fun _ =>
    Region.fits_ite (fun hvram => ?_) fun _ => Region.fits_ite (fun _ => trivial) fun _ =>
    Region.fits_ite (fun hwram => ?_) fun _ => Region.fits_ite (fun hecho => ?_) fun _ =>
    Region.fits_ite (fun hoam => ?_) fun _ => Region.fits_ite (fun _ => trivial) fun _ =>
    Region.fits_ite (fun hio => ?_) fun _ => Region.fits_ite (fun hhram => ?_) fun _ => trivial
  all_goals
    simp only [Region.Fits, storeSize]
    omega

/-! ### The elementary moves keep it -/

theorem State.InvButDue.of_regsOnly {s t : State} {n : Nat} (h : s.InvButDue) (ht : s.RegsOnly t n) : t.InvButDue where
  fLow := ht.flags.elim (fun hf => hf ▸ h.fLow) id
  vramWf := ht.vram ▸ h.vramWf
  wramWf := ht.wram ▸ h.wramWf
  oamWf := ht.oam ▸ h.oamWf
  hramWf := ht.hram ▸ h.hramWf
  ioWf := ht.io ▸ h.ioWf
  cart := ht.cart ▸ h.cart
  apu := ht.apu ▸ h.apu
  period := ht.params ▸ h.period
  due := Nat.lt_succ_self _

theorem State.InvButDue.ioWrite {s : State} (h : s.InvButDue) {k : Nat} (hk : k < storeSize .io) (v : Byte) :
    (s.ioWrite k v).InvButDue := by
  unfold State.ioWrite
  split
  · exact { h with }
  · split
    · exact { h with }
    · split
      next haudio => exact { h with apu := h.apu.write s.params (by omega) v }
      · exact { h with ioWf := Memory.wf_write v h.ioWf hk }

theorem State.InvButDue.store8 {s : State} (h : s.InvButDue) (addr : Addr) (v : Byte) : (s.store8 addr v).InvButDue := by
  have hfits := region_fits addr
  unfold State.store8
  generalize region addr = r at hfits
  cases r with
  | romFixed | romSwitch | cartRam => exact { h with cart := h.cart.write addr.toNat v }
  | vram => exact { h with vramWf := Memory.wf_write v h.vramWf hfits }
  | wram => exact { h with wramWf := Memory.wf_write v h.wramWf hfits }
  | echo => exact { h with wramWf := Memory.wf_write v h.wramWf hfits }
  | oam => exact { h with oamWf := Memory.wf_write v h.oamWf hfits }
  | unusable => exact h
  | io => exact h.ioWrite hfits v
  | hram => exact { h with hramWf := Memory.wf_write v h.hramWf hfits }
  | ie => exact { h with }

theorem State.InvButDue.of_ran {s t : State} {n : Nat} (h : s.InvButDue) (ht : s.Ran t n) : t.InvButDue := by
  obtain ⟨hmoves, -⟩ := ht
  induction hmoves with
  | refl => exact h
  | tail _ hmove ih =>
    cases hmove with
    | regs hregs => exact ih.of_regsOnly hregs
    | store addr v => exact ih.store8 addr v

/-- The catch-up keeps the other clauses and restores the one on the due time. -/
theorem State.InvButDue.apuCatchUp {s : State} (h : s.InvButDue) : s.apuCatchUp.Inv :=
  have hcaught : s.apuCatchUp.InvButDue :=
    State.apuLoop_induct State.InvButDue (fun _ hu _ => { hu with apu := hu.apu.step }) s _ h
  hcaught.inv (s.apuCatchUp_due h.period)

/-! ### The host moves keep it -/

/-- `reset()` needs of the state only what it leaves in place: the RAM arrays, the cartridge, wave memory and the period. -/
theorem State.hostReset_inv {s : State} (hvram : Memory.wf .vram s.vram = true) (hwram : Memory.wf .wram s.wram = true)
    (hoam : Memory.wf .oam s.oam = true) (hhram : Memory.wf .hram s.hram = true) (hcart : s.cart.Ok)
    (hregs : Memory.wf .apu s.apu.regs = true) (hperiod : 0 < s.params.apuStepPeriod) : s.hostReset.Inv where
  fLow := (by decide : State.reset.f &&& 0x0F = 0)
  vramWf := hvram
  wramWf := hwram
  oamWf := hoam
  hramWf := hhram
  ioWf := rfl
  cart := hcart.resetMapper
  apu := Apu.resetUnit_ok s.params hregs
  period := hperiod
  due := hperiod

theorem State.Inv.hostReset {s : State} (h : s.Inv) : s.hostReset.Inv :=
  State.hostReset_inv h.vramWf h.wramWf h.oamWf h.hramWf h.cart h.apu.regsWf h.period

theorem State.Inv.withIo {s : State} (h : s.Inv) {io : Memory} (hio : Memory.wf .io io = true) :
    ({ s with io := io } : State).Inv :=
  { h with ioWf := hio }

theorem State.Inv.externalIoWrite {s : State} (h : s.Inv) (addr : Addr) (v : Byte) : (s.externalIoWrite addr v).Inv := by
  unfold State.externalIoWrite
  split
  next hdevice =>
    have hrange := of_decide_eq_true hdevice
    exact h.withIo (Memory.wf_write v h.ioWf (by simp only [storeSize]; omega))
  · exact h

theorem State.Inv.hostMove {s : State} (h : s.Inv) (m : HostMove) : (s.hostMove m).Inv := by
  cases m with
  | press | release | requestInterrupt => exact { h with }
  | externalIoWrite addr v => exact h.externalIoWrite addr v
  | reset => exact h.hostReset

theorem State.Inv.withSchedule {s : State} (h : s.Inv) (moves : List (List HostMove)) :
    ({ s with schedule := moves } : State).Inv :=
  { h with }

theorem State.Inv.takeHostMoves {s : State} (h : s.Inv) : s.takeHostMoves.Inv :=
  s.takeHostMoves_induct h.withSchedule fun _ hu _ _ m _ => hu.hostMove m

/-- Settles O57: the moves of the host, the elementary moves of the CPU step and the audio catch-up keep the invariant. -/
theorem everyStepKeepsTheInvariant : Obligations.EveryStepKeepsTheInvariant := by
  intro s t hs h
  obtain ⟨u, hran, rfl⟩ := step_eq_next h
  exact (hs.takeHostMoves.butDue.of_ran hran).apuCatchUp

/-! ### Power-on (R90, R401) -/

theorem powerOn_inv {image : List Byte} {ram : RamInit} {p : Params} {s : State} (h : powerOn image ram p = .next s)
    (hram : ram.wf = true) (hp : 0 < p.apuStepPeriod) : s.Inv := by
  unfold powerOn at h
  split at h
  · cases h
  next cart hload =>
    cases h
    simp only [RamInit.wf, Bool.and_eq_true] at hram
    obtain ⟨⟨⟨⟨⟨hvram, hwram⟩, hoam⟩, hhram⟩, hcartRam⟩, hwave⟩ := hram
    exact State.hostReset_inv hvram hwram hoam hhram (Cart.load_ok hload hcartRam) hwave hp

/-- Settles O58: by induction over the ways a state is reached. -/
theorem reachableStatesMeetTheInvariant : Obligations.ReachableStatesMeetTheInvariant := by
  intro s hs
  induction hs with
  | powerOn image ram p moves s hram hp h => exact (powerOn_inv h hram hp).withSchedule moves
  | step s t _ h ih => exact everyStepKeepsTheInvariant s t ih h
  | recover s f _ _ ih => exact ih.takeHostMoves.hostReset

/-- Settles O56: the state after reset is the one `reset()` leaves of itself. -/
theorem invariantHoldsAtReset : Obligations.InvariantHoldsAtReset := by
  have hinv : State.reset.hostReset.Inv := State.hostReset_inv rfl rfl rfl rfl Cart.reset_ok rfl (by decide)
  exact hinv

end Sys2Proof.Machine

/-! ## The values after reset (O53) -/

namespace Sys2Proof.Machine

theorem region_eq_io {addr : Addr} (hlo : 0xFF00 ≤ addr.toNat) (hhi : addr.toNat < 0xFF80) : region addr = .io := by
  unfold region
  rw [if_neg (by omega), if_neg (by omega), if_neg (by omega), if_neg (by omega), if_neg (by omega), if_neg (by omega),
    if_neg (by omega), if_neg (by omega), if_pos hhi]

/-- A read of the I/O block is a read of the byte at that offset from 0xFF00 (R72). -/
theorem State.read8_io (s : State) {k : Nat} (hk : k < 0x80) : s.read8 (BitVec.ofNat 16 (0xFF00 + k)) = s.ioRead k := by
  have haddr : (BitVec.ofNat 16 (0xFF00 + k)).toNat = 0xFF00 + k := by
    rw [BitVec.toNat_ofNat]
    omega
  rw [State.read8, region_eq_io (by omega) (by omega), haddr, Nat.add_sub_cancel_left]

theorem ioReset_eq_zero {k : Nat} (hk : k ∉ [0x40, 0x47, 0x48, 0x49]) : ioReset k = 0x00 := by
  unfold ioReset
  split
  case h_5 => rfl
  all_goals exact absurd (by decide) hk

/-- R40: the plain bytes of the I/O block that have no reset value of their own read as 0. -/
theorem State.reset_read8_io {k : Nat} (hk : k < 0x80) (hvalue : k ∉ [0x00, 0x0F, 0x40, 0x47, 0x48, 0x49])
    (haudio : ¬(0x10 ≤ k ∧ k < 0x40)) : State.reset.read8 (BitVec.ofNat 16 (0xFF00 + k)) = 0x00 := by
  have hreset := ioReset_eq_zero (k := k)
  simp only [List.mem_cons, List.not_mem_nil, or_false, not_or] at hvalue hreset
  rw [State.read8_io _ hk, State.ioRead, if_neg (by omega), if_neg (by omega), if_neg (by omega)]
  exact hreset (by omega)

/-- Settles O53: every value is a field of the reset state or a read of it. -/
theorem resetLeavesTheSpecsValues : Obligations.ResetLeavesTheSpecsValues := by
  unfold Obligations.ResetLeavesTheSpecsValues
  have hio : ∀ k ∈ List.range 0x80, k ∉ [0x00, 0x0F, 0x40, 0x47, 0x48, 0x49] → ¬(0x10 ≤ k ∧ k < 0x40) →
      State.reset.read8 (BitVec.ofNat 16 (0xFF00 + k)) = 0x00 := fun k hk => State.reset_read8_io (List.mem_range.mp hk)
  refine ⟨rfl, rfl, rfl, rfl, rfl, rfl, rfl, rfl, rfl, rfl, rfl, rfl, rfl, rfl, ?_⟩
  refine ⟨by decide, by decide, by decide, by decide, by decide, by decide, by decide, hio, ?_⟩
  exact ⟨by decide, by decide, by decide, by decide⟩

end Sys2Proof.Machine

/-! ## The address space and the cartridge (O10, O44, O45, O46) -/

namespace Sys2Proof.Machine

/-! ### The region table as ranges (R61) -/

/-- The first address of a region. -/
def Region.first (r : Region) : Nat :=
  match r with
  | .romFixed => 0x0000
  | .romSwitch => 0x4000
  | .vram => 0x8000
  | .cartRam => 0xA000
  | .wram => 0xC000
  | .echo => 0xE000
  | .oam => 0xFE00
  | .unusable => 0xFEA0
  | .io => 0xFF00
  | .hram => 0xFF80
  | .ie => 0xFFFF

/-- The last address of a region. -/
def Region.last (r : Region) : Nat :=
  match r with
  | .romFixed => 0x3FFF
  | .romSwitch => 0x7FFF
  | .vram => 0x9FFF
  | .cartRam => 0xBFFF
  | .wram => 0xDFFF
  | .echo => 0xFDFF
  | .oam => 0xFE9F
  | .unusable => 0xFEFF
  | .io => 0xFF7F
  | .hram => 0xFFFE
  | .ie => 0xFFFF

theorem region_range (addr : Addr) : (region addr).first ≤ addr.toNat ∧ addr.toNat ≤ (region addr).last := by
  have := addr.isLt
  unfold region
  split_ifs <;> simp only [Region.first, Region.last] <;> omega

/-- Of two regions one ends before the other begins. -/
theorem Region.disjoint {r r' : Region} (h : r ≠ r') : r.last < r'.first ∨ r'.last < r.first := by
  revert h
  cases r <;> cases r' <;> decide

theorem region_eq_iff {addr : Addr} {r : Region} : region addr = r ↔ r.first ≤ addr.toNat ∧ addr.toNat ≤ r.last := by
  obtain ⟨hfirst, hlast⟩ := region_range addr
  constructor
  · rintro rfl
    exact ⟨hfirst, hlast⟩
  · rintro ⟨hfirst', hlast'⟩
    by_contra hne
    have := Region.disjoint hne
    omega

/-- Every store in canonical form, one by one. -/
theorem State.memoryWf_iff {s : State} :
    s.memoryWf = true ↔
      Memory.wf .vram s.vram = true ∧ Memory.wf .wram s.wram = true ∧ Memory.wf .oam s.oam = true ∧
        Memory.wf .hram s.hram = true ∧ Memory.wf .io s.io = true ∧ Memory.wf .cartRam s.cart.ram = true ∧
          Memory.wf .rom s.cart.rom = true ∧ Memory.wf .apu s.apu.regs = true := by
  simp only [State.memoryWf, Bool.and_eq_true, and_assoc]

/-! ### The cartridge windows (R91 to R100) -/

/-- An address that the address space delegates to the cartridge. -/
def IsCartAddr (addr : Addr) : Prop :=
  addr.toNat ≤ 0x7FFF ∨ 0xA000 ≤ addr.toNat ∧ addr.toNat ≤ 0xBFFF

theorem isCartAddr_iff {addr : Addr} :
    IsCartAddr addr ↔ region addr = .romFixed ∨ region addr = .romSwitch ∨ region addr = .cartRam := by
  simp only [region_eq_iff, Region.first, Region.last, IsCartAddr]
  omega

theorem State.read8_cart (s : State) {addr : Addr} (h : IsCartAddr addr) :
    s.read8 addr = s.cart.read s.params addr.toNat := by
  rcases isCartAddr_iff.mp h with hr | hr | hr <;> simp only [State.read8, hr]

theorem State.store8_cart_eq (s : State) {addr : Addr} (v : Byte) (h : IsCartAddr addr) :
    s.store8 addr v = { s with cart := s.cart.write addr.toNat v } := by
  rcases isCartAddr_iff.mp h with hr | hr | hr <;> simp only [State.store8, hr]

theorem State.read8_store8_cart (s : State) {addr a : Addr} (v : Byte) (h : IsCartAddr addr) (ha : IsCartAddr a) :
    (s.store8 addr v).read8 a = (s.cart.write addr.toNat v).read s.params a.toNat := by
  rw [s.store8_cart_eq v h, State.read8_cart _ ha]

/-- A store that the mapper ignores changes nothing. -/
theorem State.store8_eq_self {s : State} {addr : Addr} {v : Byte} (h : IsCartAddr addr)
    (hcart : s.cart.write addr.toNat v = s.cart) : s.store8 addr v = s := by
  rw [s.store8_cart_eq v h, hcart]

theorem Cart.write_romOnly {cart : Cart} (h : cart.kind = .romOnly) (addr : Nat) (v : Byte) : cart.write addr v = cart := by
  simp only [Cart.write, h]

theorem Cart.selectsMode4_romOnly {cart : Cart} (h : cart.kind = .romOnly) (addr : Nat) (v : Byte) :
    cart.selectsMode4 addr v = false := by
  simp only [Cart.selectsMode4, h]

theorem Cart.ramPresent_romOnly {cart : Cart} (h : cart.kind = .romOnly) : cart.ramPresent = false := by
  simp only [Cart.ramPresent, h]

theorem Cart.romOffset_romOnly {cart : Cart} (h : cart.kind = .romOnly) (p : Params) (addr : Nat) :
    cart.romOffset p addr = addr := by
  simp only [Cart.romOffset, h, ite_self]

theorem Cart.romOffset_fixed (cart : Cart) (p : Params) {addr : Nat} (h : addr < 0x4000) : cart.romOffset p addr = addr :=
  if_pos h

theorem Cart.read_rom (cart : Cart) (p : Params) {addr : Nat} (h : addr < 0x8000) :
    cart.read p addr = Memory.read .rom cart.rom (cart.romOffset p addr) :=
  if_pos h

theorem Cart.read_ram {cart : Cart} (hram : cart.ramPresent = true) (p : Params) {addr : Nat} (h : 0xA000 ≤ addr) :
    cart.read p addr = Memory.read .cartRam cart.ram (cart.ramOffset addr) := by
  rw [Cart.read, if_neg (by omega), if_pos hram]

theorem Cart.read_noRam {cart : Cart} (hram : cart.ramPresent = false) (p : Params) {addr : Nat} (h : 0xA000 ≤ addr) :
    cart.read p addr = p.unmapped := by
  rw [Cart.read, if_neg (by omega), if_neg (by simp [hram])]

/-- Settles O44: the ROM-only mapper ignores every write and maps no RAM. -/
theorem romOnlyCartridgeIgnoresWrites : Obligations.RomOnlyCartridgeIgnoresWrites := by
  intro s addr v hkind
  refine ⟨fun haddr => ?_, fun hrom => ?_, fun hlo hhi => ?_⟩
  · rw [State.write8_of_ok (Cart.selectsMode4_romOnly hkind _ v), State.store8_eq_self haddr (Cart.write_romOnly hkind _ v)]
  · rw [s.read8_cart (.inl hrom), Cart.read_rom _ _ (by omega), Cart.romOffset_romOnly hkind]
  · rw [s.read8_cart (.inr ⟨hlo, hhi⟩), Cart.read_noRam (Cart.ramPresent_romOnly hkind) _ hlo]

/-! ### The MBC1 registers (R94 to R100) -/

section mbc1

variable {cart : Cart} (h : cart.kind = .mbc1)
include h

theorem Cart.write_mbc1_ramEnable {addr : Nat} (haddr : addr ≤ 0x1FFF) (v : Byte) :
    cart.write addr v = { cart with ramEnable := decide (v.extractLsb' 0 4 = 0xA) } := by
  simp only [Cart.write, h, if_pos (show addr < 0x2000 by omega)]

theorem Cart.write_mbc1_romBank {addr : Nat} (hlo : 0x2000 ≤ addr) (hhi : addr ≤ 0x3FFF) (v : Byte) :
    cart.write addr v = { cart with romBank := bankSelect v } := by
  simp only [Cart.write, h, if_neg (show ¬addr < 0x2000 by omega), if_pos (show addr < 0x4000 by omega)]

theorem Cart.write_mbc1_upperBank {addr : Nat} (hlo : 0x4000 ≤ addr) (hhi : addr ≤ 0x5FFF) (v : Byte) :
    cart.write addr v = cart := by
  simp only [Cart.write, h, if_neg (show ¬addr < 0x2000 by omega), if_neg (show ¬addr < 0x4000 by omega),
    if_pos (show addr < 0x6000 by omega)]

theorem Cart.write_mbc1_mode {addr : Nat} (hlo : 0x6000 ≤ addr) (hhi : addr ≤ 0x7FFF) (v : Byte) :
    cart.write addr v = { cart with mode := .mode16x8 } := by
  simp only [Cart.write, h, if_neg (show ¬addr < 0x2000 by omega), if_neg (show ¬addr < 0x4000 by omega),
    if_neg (show ¬addr < 0x6000 by omega), if_pos (show addr < 0x8000 by omega)]

theorem Cart.write_mbc1_cartRam {addr : Nat} (hlo : 0xA000 ≤ addr) (v : Byte) :
    cart.write addr v =
      if cart.ramPresent then { cart with ram := Memory.write .cartRam cart.ram (cart.ramOffset addr) v } else cart := by
  simp only [Cart.write, h, if_neg (show ¬addr < 0x2000 by omega), if_neg (show ¬addr < 0x4000 by omega),
    if_neg (show ¬addr < 0x6000 by omega), if_neg (show ¬addr < 0x8000 by omega)]

/-- R100: enabled RAM is read where it was written, and at the mirrors of that cell. -/
theorem Cart.read_write_mbc1_cartRam (hram : cart.ramPresent = true) (hwf : Memory.wf .cartRam cart.ram = true) (p : Params)
    {addr a : Nat} (hlo : 0xA000 ≤ addr) (ha : 0xA000 ≤ a) (v : Byte) :
    (cart.write addr v).read p a = if cart.ramOffset a = cart.ramOffset addr then v else cart.read p a := by
  have hread : ∀ ram, ({ cart with ram := ram } : Cart).read p a = Memory.read .cartRam ram (cart.ramOffset a) := fun ram =>
    Cart.read_ram (cart := { cart with ram := ram }) hram p ha
  rw [Cart.write_mbc1_cartRam h hlo, if_pos hram, hread, Cart.read_ram hram p ha, Memory.read_write hwf]

theorem Cart.ramPresent_mbc1 : cart.ramPresent = (cart.ramEnable && decide (0 < cart.ramSize)) := by
  simp only [Cart.ramPresent, h]

theorem Cart.romOffset_mbc1 (p : Params) {addr : Nat} (haddr : 0x4000 ≤ addr) :
    cart.romOffset p addr = (addr - 0x4000) + cart.effectiveBank p * 0x4000 := by
  simp only [Cart.romOffset, h, if_neg (show ¬addr < 0x4000 by omega)]

theorem Cart.selectsMode4_mbc1 (addr : Nat) (v : Byte) :
    cart.selectsMode4 addr v = true ↔ 0x6000 ≤ addr ∧ addr ≤ 0x7FFF ∧ v.toNat % 2 = 1 := by
  simp [Cart.selectsMode4, h, BitVec.getLsbD, Nat.lt_succ_iff, and_assoc]

end mbc1

/-- R97: the one write that faults, on the cartridge's kind, the address and the value. -/
theorem State.writeFaults_iff (s : State) (addr : Addr) (v : Byte) :
    s.writeFaults addr v = true ↔ s.cart.kind = .mbc1 ∧ 0x6000 ≤ addr.toNat ∧ addr.toNat ≤ 0x7FFF ∧ v.toNat % 2 = 1 := by
  unfold State.writeFaults
  cases hkind : s.cart.kind with
  | romOnly => simp [Cart.selectsMode4_romOnly hkind]
  | mbc1 => simp [Cart.selectsMode4_mbc1 hkind]

/-- Settles O10: the faulting set is that of R97, and a mode select that completes selects Mode16_8. -/
theorem writesFaultOnlyByTheModeSelect : Obligations.WritesFaultOnlyByTheModeSelect := by
  intro s addr v
  refine ⟨fun hsel => ?_, fun hsel => ?_, fun hkind hlo hhi _ => ?_⟩
  · exact if_pos ((s.writeFaults_iff addr v).mpr hsel)
  · exact if_neg (mt (s.writeFaults_iff addr v).mp hsel)
  · rw [s.store8_cart_eq v (.inl hhi), Cart.write_mbc1_mode hkind hlo hhi]

/-! ### The bank window (R95, R98, R99) -/

theorem toNat_bankSelect (v : Byte) : (bankSelect v).toNat = max (v.toNat % 32) 1 := by
  have hlow : (v.extractLsb' 0 5).toNat = v.toNat % 32 := by simp
  unfold bankSelect
  split
  next hzero => simp [← hlow, hzero]
  next hne =>
    have : (v.extractLsb' 0 5).toNat ≠ 0 := fun h0 => hne (BitVec.eq_of_toNat_eq h0)
    omega

/-- The three cases of R99 give the bank. -/
theorem Cart.effectiveBank_eq {p : Params} {cart : Cart} {b : Nat}
    (hin : cart.romBank.toNat < cart.romBanks → b = cart.romBank.toNat)
    (hsaturate : cart.romBanks ≤ cart.romBank.toNat → p.romBankOor = .saturate → b = cart.romBanks - 1)
    (hmask : cart.romBanks ≤ cart.romBank.toNat → p.romBankOor = .mask → b = cart.romBank.toNat % cart.romBanks) :
    cart.effectiveBank p = b := by
  unfold Cart.effectiveBank
  split
  next hout =>
    split
    next hp => exact (hsaturate hout hp).symm
    next hp => exact (hmask hout hp).symm
  next hlt => exact (hin (by omega)).symm

/-- Settles O45: the bank register is written by the one window and read through the other. -/
theorem mbc1BankSelectAndWindow : Obligations.Mbc1BankSelectAndWindow := by
  intro s addr v hkind
  refine ⟨fun hlo hhi => ?_, fun hlo hhi => ?_, fun hhi => ?_, fun hlo hhi b hin hsaturate hmask => ?_⟩
  · rw [s.store8_cart_eq v (.inl (by omega)), Cart.write_mbc1_romBank hkind hlo hhi]
    exact ⟨toNat_bankSelect v, rfl⟩
  · exact State.store8_eq_self (.inl (by omega)) (Cart.write_mbc1_upperBank hkind hlo hhi v)
  · rw [s.read8_cart (.inl (by omega)), Cart.read_rom _ _ (by omega), Cart.romOffset_fixed _ _ (by omega)]
  · rw [s.read8_cart (.inl hhi), Cart.read_rom _ _ (by omega), Cart.romOffset_mbc1 hkind _ hlo,
      Cart.effectiveBank_eq hin hsaturate hmask]

/-! ### Cartridge RAM (R94, R100) -/

/-- Settles O46: a disabled or absent RAM is not there for reads and stores, and otherwise both name the cell modulo the size. -/
theorem mbc1RamNeedsItsEnable : Obligations.Mbc1RamNeedsItsEnable := by
  intro s addr v hkind
  refine ⟨fun hhi => ?_, fun hlo hhi => ⟨fun hoff => ?_, fun hon hsize hwf a halo hahi => ?_⟩⟩
  · rw [s.store8_cart_eq v (.inl (by omega)), Cart.write_mbc1_ramEnable hkind hhi]
    simp [← BitVec.toNat_inj]
  · have hram : s.cart.ramPresent = false := by
      rw [Cart.ramPresent_mbc1 hkind]
      rcases hoff with hoff | hoff <;> simp [hoff]
    have hwrite := Cart.write_mbc1_cartRam hkind hlo v
    rw [hram] at hwrite
    exact ⟨by rw [s.read8_cart (.inr ⟨hlo, hhi⟩), Cart.read_noRam hram _ hlo], State.store8_eq_self (.inr ⟨hlo, hhi⟩) hwrite⟩
  · have hram : s.cart.ramPresent = true := by simp [Cart.ramPresent_mbc1 hkind, hon, hsize]
    obtain ⟨-, -, -, -, -, hramWf, -, -⟩ := State.memoryWf_iff.mp hwf
    rw [s.read8_store8_cart v (.inr ⟨hlo, hhi⟩) (.inr ⟨halo, hahi⟩), s.read8_cart (.inr ⟨halo, hahi⟩)]
    exact Cart.read_write_mbc1_cartRam hkind hram hramWf s.params hlo halo v

end Sys2Proof.Machine

/-! ## Work RAM and its echo (O43) -/

namespace Sys2Proof.Machine

theorem workCell_of_wram {addr : Addr} (h : region addr = .wram) : workCell addr = addr.toNat - 0xC000 := by
  have : addr.toNat ≤ 0xDFFF := (region_eq_iff.mp h).2
  exact if_pos (by omega)

theorem workCell_of_echo {addr : Addr} (h : region addr = .echo) : workCell addr = addr.toNat - 0xE000 := by
  have : 0xE000 ≤ addr.toNat := (region_eq_iff.mp h).1
  exact if_neg (by omega)

theorem isWork_iff_region {addr : Addr} : isWork addr = true ↔ region addr = .wram ∨ region addr = .echo := by
  simp only [isWork, Bool.or_eq_true, decide_eq_true_eq]

/-- A read in either range of work RAM is a read of the cell (R69). -/
theorem State.read8_work (s : State) {addr : Addr} (h : isWork addr = true) :
    s.read8 addr = Memory.read .wram s.wram (workCell addr) := by
  rcases isWork_iff_region.mp h with hr | hr
  · simp only [State.read8, hr, workCell_of_wram hr]
  · simp only [State.read8, hr, workCell_of_echo hr]

theorem State.store8_work (s : State) {addr : Addr} (v : Byte) (h : isWork addr = true) :
    s.store8 addr v = { s with wram := Memory.write .wram s.wram (workCell addr) v } := by
  rcases isWork_iff_region.mp h with hr | hr
  · simp only [State.store8, hr, workCell_of_wram hr]
  · simp only [State.store8, hr, workCell_of_echo hr]

/-- A stored byte is read at every address of the cell. -/
theorem State.read8_store8_work {s : State} (hwf : Memory.wf .wram s.wram = true) {addr a : Addr} (h : isWork addr = true)
    (ha : isWork a = true) (v : Byte) :
    (s.store8 addr v).read8 a = if workCell a = workCell addr then v else s.read8 a := by
  rw [s.store8_work v h, State.read8_work _ ha, s.read8_work ha, Memory.read_write hwf]

theorem isWork_iff {addr : Addr} : isWork addr = true ↔ 0xC000 ≤ addr.toNat ∧ addr.toNat ≤ 0xFDFF := by
  simp only [isWork_iff_region, region_eq_iff, Region.first, Region.last]
  omega

/-- The addresses `0xC000 + k` and `0xE000 + k` of the echo rule (R69) name cell `k`. -/
theorem work_addresses {k : Nat} (hk : k ≤ 0x1DFF) :
    (isWork (BitVec.ofNat 16 (0xC000 + k)) = true ∧ workCell (BitVec.ofNat 16 (0xC000 + k)) = k) ∧
      isWork (BitVec.ofNat 16 (0xE000 + k)) = true ∧ workCell (BitVec.ofNat 16 (0xE000 + k)) = k := by
  have hwork : (BitVec.ofNat 16 (0xC000 + k)).toNat = 0xC000 + k := by rw [BitVec.toNat_ofNat]; omega
  have hecho : (BitVec.ofNat 16 (0xE000 + k)).toNat = 0xE000 + k := by rw [BitVec.toNat_ofNat]; omega
  rw [isWork_iff, isWork_iff, workCell, workCell, hwork, hecho, if_pos (by omega), if_neg (by omega)]
  omega

/-- Settles O43: both addresses name the same cell. -/
theorem echoIsTheSameStorage : Obligations.EchoIsTheSameStorage := by
  intro s k v hk
  obtain ⟨⟨hwork, hworkCell⟩, hecho, hechoCell⟩ := work_addresses hk
  refine ⟨?_, ?_, fun hwf => ?_⟩
  · rw [s.read8_work hecho, s.read8_work hwork, hworkCell, hechoCell]
  · rw [s.store8_work v hecho, s.store8_work v hwork, hworkCell, hechoCell]
  · obtain ⟨-, hwramWf, -⟩ := State.memoryWf_iff.mp hwf
    have hcell := hworkCell.trans hechoCell.symm
    exact ⟨by rw [State.read8_store8_work hwramWf hecho hwork, if_pos hcell],
      by rw [State.read8_store8_work hwramWf hwork hecho, if_pos hcell.symm]⟩

end Sys2Proof.Machine

/-! ## The audio window as storage (R341, R343, R344) -/

namespace Sys2Proof.Machine

theorem lengthReg_of_lengthChan {k : Nat} {n : Chan} (h : lengthChan k = some n) : lengthReg n = k := by
  unfold lengthChan at h
  split at h <;> cases h <;> rfl

theorem dacReg_of_dacChan {k : Nat} {n : Chan} (h : dacChan k = some n) : dacReg n = k := by
  unfold dacChan at h
  split at h <;> cases h <;> rfl

theorem controlReg_of_controlChan {k : Nat} {n : Chan} (h : controlChan k = some n) : controlReg n = k := by
  unfold controlChan at h
  split at h <;> cases h <;> rfl

/-! ### What a write does to the register file -/

theorem Apu.triggerCheck_regs (apu : Apu) (n : Chan) : (apu.triggerCheck n).regs = apu.regs := by
  unfold Apu.triggerCheck
  split
  · split
    · split
      · rw [Apu.setChOn_regs, Apu.recordNegate_regs]
      · exact apu.recordNegate_regs
    · rfl
  all_goals rfl

/-- A trigger writes no register (R350). -/
theorem Apu.trigger_regs (p : Params) (apu : Apu) (n : Chan) : (apu.trigger p n).regs = apu.regs := by
  rw [Apu.trigger, Apu.triggerCheck_regs, Apu.triggerEnable, Apu.setChOn_regs, Apu.triggerSweep_regs, Apu.triggerEnvelope_regs,
    Apu.triggerLength_regs]

theorem Apu.writeLength_regs (apu : Apu) (n : Chan) (v : Byte) :
    (apu.writeLength n v).regs = (apu.setReg (lengthReg n) v).regs :=
  Apu.setLen_regs _ n _

theorem Apu.writeDac_regs (apu : Apu) (n : Chan) (v : Byte) : (apu.writeDac n v).regs = (apu.setReg (dacReg n) v).regs := by
  unfold Apu.writeDac
  dsimp only
  split
  · rfl
  · exact Apu.setChOn_regs _ n false

theorem Apu.writeControl_regs (p : Params) (apu : Apu) (n : Chan) (v : Byte) :
    (apu.writeControl p n v).regs = (apu.setReg (controlReg n) v).regs := by
  unfold Apu.writeControl
  dsimp only
  split
  · exact Apu.trigger_regs p _ n
  · rfl

theorem Apu.writeNr10_regs (apu : Apu) (v : Byte) : (apu.writeNr10 v).regs = (apu.setReg 0x00 v).regs := by
  unfold Apu.writeNr10
  dsimp only
  split
  · exact Apu.setChOn_regs _ .ch1 false
  · rfl

/-- With the unit on a write stores its byte in its register. -/
theorem Apu.writeOn_regs (p : Params) (apu : Apu) (k : Nat) (v : Byte) : (apu.writeOn p k v).regs = (apu.setReg k v).regs := by
  unfold Apu.writeOn
  split
  next hlen => rw [Apu.writeLength_regs, lengthReg_of_lengthChan hlen]
  next hdac => rw [Apu.writeDac_regs, dacReg_of_dacChan hdac]
  next hcontrol => rw [Apu.writeControl_regs, controlReg_of_controlChan hcontrol]
  · split
    next hk => rw [Apu.writeNr10_regs, hk]
    · rfl

theorem Apu.writeLengthOff_regs (apu : Apu) (n : Chan) (v : Byte) :
    ∃ w, (apu.writeLengthOff n v).regs = (apu.setReg (lengthReg n) w).regs := by
  cases n <;> exact ⟨_, rfl⟩

/-- A write outside NR52 leaves the register file or sets the one register it names. -/
theorem Apu.write_regs (p : Params) (apu : Apu) {k : Nat} (hk : k ≠ 0x16) (v : Byte) :
    (apu.write p k v).regs = apu.regs ∨ ∃ w, (apu.write p k v).regs = (apu.setReg k w).regs := by
  by_cases hwave : 0x20 ≤ k
  · exact .inr ⟨v, by rw [Apu.write, if_pos hwave]⟩
  · rw [Apu.write, if_neg hwave, if_neg hk]
    split
    · exact .inl rfl
    · split
      · exact .inr ⟨v, apu.writeOn_regs p k v⟩
      · unfold Apu.writeOff
        split
        next hlen => exact .inr (lengthReg_of_lengthChan hlen ▸ apu.writeLengthOff_regs _ v)
        · exact .inl rfl

theorem Apu.reg_congr {apu apu' : Apu} (h : apu'.regs = apu.regs) (k : Nat) : apu'.reg k = apu.reg k := by
  rw [Apu.reg, h, Apu.reg]

/-- A write outside NR52 leaves every other register. -/
theorem Apu.reg_write_other (p : Params) (apu : Apu) {k j : Nat} (hk : k ≠ 0x16) (hj : j ≠ k) (v : Byte) :
    (apu.write p k v).reg j = apu.reg j := by
  rcases apu.write_regs p hk v with h | ⟨w, h⟩
  · exact Apu.reg_congr h j
  · rw [Apu.reg_congr h, Apu.reg_setReg_other _ w hj]

theorem Apu.write_wave (p : Params) (apu : Apu) {k : Nat} (hk : 0x20 ≤ k) (v : Byte) : apu.write p k v = apu.setReg k v :=
  if_pos hk

/-- The numbers between NR52 and the wave memory name no register that can be written (R344). -/
theorem Apu.write_unmapped (p : Params) (apu : Apu) {k : Nat} (hlo : 0x17 ≤ k) (hhi : k < 0x20) (v : Byte) :
    apu.write p k v = apu := by
  rw [Apu.write, if_neg (by omega), if_neg (by omega), if_pos (by omega)]

/-! ### What a read gives -/

theorem Apu.read_of_ne (apu : Apu) {k : Nat} (hk : k ≠ 0x16) : apu.read k = apu.reg k ||| readMask k :=
  if_neg hk

theorem readMask_above_nr52 {k : Nat} (hk : 0x17 ≤ k) : readMask k = if k < 0x20 then 0xFF else 0x00 := by
  unfold readMask
  split
  case h_24 => rfl
  all_goals omega

theorem Apu.read_wave (apu : Apu) {k : Nat} (hk : 0x20 ≤ k) : apu.read k = apu.reg k := by
  rw [apu.read_of_ne (by omega), readMask_above_nr52 (by omega), if_neg (by omega)]
  exact BitVec.or_zero

/-- NR52 shows no register but its own. -/
theorem Apu.readNr52_setReg (apu : Apu) {k : Nat} (hk : k ≠ 0x16) (v : Byte) : (apu.setReg k v).readNr52 = apu.readNr52 := by
  rw [Apu.readNr52, Apu.power_setReg _ _ hk]
  rfl

/-- The registers that a write outside NR52 does not reach read as before; wave memory and the unused numbers do not even reach
the status bits of NR52. -/
theorem Apu.read_write_other (p : Params) (apu : Apu) {k j : Nat} (hk : k ≠ 0x16) (hj : j ≠ k) (hstatus : j = 0x16 → 0x17 ≤ k)
    (v : Byte) : (apu.write p k v).read j = apu.read j := by
  by_cases hj16 : j = 0x16
  · subst hj16
    by_cases hwave : 0x20 ≤ k
    · rw [Apu.write_wave p apu hwave]
      exact apu.readNr52_setReg hk v
    · rw [Apu.write_unmapped p apu (hstatus rfl) (by omega)]
  · rw [Apu.read_of_ne _ hj16, Apu.read_of_ne _ hj16, Apu.reg_write_other p apu hk hj]

theorem Apu.toNat_readNr52 (apu : Apu) :
    apu.readNr52.toNat =
      128 * apu.power.toNat + 112 + 8 * apu.on4.toNat + 4 * apu.on3.toNat + 2 * apu.on2.toNat + apu.on1.toNat := by
  have hbits : ∀ power on4 on3 on2 on1 : Bool,
      (BitVec.ofBool power ++ 0b111#3 ++ BitVec.ofBool on4 ++ BitVec.ofBool on3 ++ BitVec.ofBool on2 ++
        BitVec.ofBool on1).toNat =
        128 * power.toNat + 112 + 8 * on4.toNat + 4 * on3.toNat + 2 * on2.toNat + on1.toNat := by decide
  exact hbits _ _ _ _ _

end Sys2Proof.Machine

/-! ## A byte stored and read again (O41) -/

namespace Sys2Proof.Machine

theorem State.read8_of_io (s : State) {addr : Addr} (h : region addr = .io) : s.read8 addr = s.ioRead (addr.toNat - 0xFF00) := by
  simp only [State.read8, h]

theorem State.store8_of_io (s : State) {addr : Addr} (v : Byte) (h : region addr = .io) :
    s.store8 addr v = s.ioWrite (addr.toNat - 0xFF00) v := by
  simp only [State.store8, h]

theorem State.ioRead_audio (s : State) {k : Nat} (hlo : 0x10 ≤ k) (hhi : k ≤ 0x3F) : s.ioRead k = s.apu.read (k - 0x10) := by
  rw [State.ioRead, if_neg (by omega), if_neg (by omega), if_pos ⟨hlo, hhi⟩]

theorem State.ioWrite_audio (s : State) {k : Nat} (hlo : 0x10 ≤ k) (hhi : k ≤ 0x3F) (v : Byte) :
    s.ioWrite k v = { s with apu := s.apu.write s.params (k - 0x10) v } := by
  rw [State.ioWrite, if_neg (by omega), if_neg (by omega), if_pos ⟨hlo, hhi⟩]

theorem State.read8_audio (s : State) {k : Nat} (hk : k < 0x30) : s.read8 (BitVec.ofNat 16 (0xFF10 + k)) = s.apu.read k := by
  rw [show 0xFF10 + k = 0xFF00 + (0x10 + k) by omega, s.read8_io (by omega), s.ioRead_audio (by omega) (by omega),
    Nat.add_sub_cancel_left]

/-- A byte of the I/O block that is plain storage: not P1, not IF and outside the audio window (R36, R72). -/
def IsPlainIo (k : Nat) : Prop :=
  k ≠ 0x00 ∧ k ≠ 0x0F ∧ ¬(0x10 ≤ k ∧ k ≤ 0x3F)

theorem State.ioRead_plain (s : State) {k : Nat} (h : IsPlainIo k) : s.ioRead k = Memory.read .io s.io k := by
  obtain ⟨hp1, hif, haudio⟩ := h
  rw [State.ioRead, if_neg hp1, if_neg hif, if_neg haudio]

theorem State.ioWrite_plain (s : State) {k : Nat} (v : Byte) (h : IsPlainIo k) :
    s.ioWrite k v = { s with io := Memory.write .io s.io k v } := by
  obtain ⟨hp1, hif, haudio⟩ := h
  rw [State.ioWrite, if_neg hp1, if_neg hif, if_neg haudio]

theorem State.ioRead_ioWrite_plain {s : State} (hwf : Memory.wf .io s.io = true) {k : Nat} (h : IsPlainIo k) (v : Byte) :
    (s.ioWrite k v).ioRead k = v := by
  rw [State.ioRead_plain _ h, s.ioWrite_plain v h]
  exact Memory.read_write_same hwf k v

theorem State.ioRead_ioWrite_wave {s : State} (hwf : Memory.wf .apu s.apu.regs = true) {k : Nat} (hlo : 0x30 ≤ k) (hhi : k ≤ 0x3F)
    (v : Byte) : (s.ioWrite k v).ioRead k = v := by
  rw [State.ioRead_audio _ (by omega) hhi, s.ioWrite_audio (by omega) hhi, Apu.read_wave _ (by omega),
    Apu.write_wave _ _ (by omega), Apu.reg_setReg hwf, if_pos rfl]

/-- The number of a concatenation of fields. -/
theorem toNat_append_eq_add {m n : Nat} (x : BitVec m) (y : BitVec n) : (x ++ y).toNat = x.toNat * 2 ^ n + y.toNat := by
  rw [BitVec.toNat_append, Nat.shiftLeft_eq, Nat.mul_comm, Nat.two_pow_add_eq_or_of_lt y.isLt]

/-- P1 keeps the select bits of the byte and its lines (R31). -/
theorem State.toNat_read_p1 (s : State) (v : Byte) :
    ((s.ioWrite 0x00 v).ioRead 0x00).toNat = 0xC0 + v.toNat / 16 % 4 * 16 + s.p1.toNat % 16 := by
  have hread : (s.ioWrite 0x00 v).ioRead 0x00 = 0b11#2 ++ (v.extractLsb' 4 2 ++ s.p1.extractLsb' 0 4) := rfl
  rw [hread, toNat_append_eq_add, toNat_append_eq_add]
  simp [Nat.shiftRight_eq_div_pow, Nat.add_assoc]

/-- IF keeps the five request bits (R30). -/
theorem State.toNat_read_if (s : State) (v : Byte) : ((s.ioWrite 0x0F v).ioRead 0x0F).toNat = 0xE0 + v.toNat % 32 := by
  have hread : (s.ioWrite 0x0F v).ioRead 0x0F = 0b111#3 ++ v.extractLsb' 0 5 := rfl
  rw [hread, toNat_append_eq_add]
  simp

/-- Settles O41: each region's store keeps the byte, P1 and IF keep their bits of it, and the audio window reads through its masks. -/
theorem storeThenReadGivesTheByte : Obligations.StoreThenReadGivesTheByte := by
  intro s addr v hwf
  obtain ⟨hvram, hwram, hoam, hhram, hio, -, -, hapu⟩ := State.memoryWf_iff.mp hwf
  refine ⟨fun hplain => ?_, ?_, ?_, fun hlo hhi => ?_, fun hlo hhi => ?_, fun k hk h16 => ?_, ?_⟩
  · have hwork : isWork addr = true → (s.store8 addr v).read8 addr = v := fun h => by
      rw [State.read8_store8_work hwram h h, if_pos rfl]
    rcases hplain with hr | hr | hr | hr | hr | hr | ⟨hr, hp1, hif, haudio⟩
    · simp only [State.read8, State.store8, hr, Memory.read_write_same hvram]
    · exact hwork (isWork_iff_region.mpr (by simp [hr]))
    · exact hwork (isWork_iff_region.mpr (by simp [hr]))
    · simp only [State.read8, State.store8, hr, Memory.read_write_same hoam]
    · simp only [State.read8, State.store8, hr, Memory.read_write_same hhram]
    · simp only [State.read8, State.store8, hr]
    · rw [State.read8_of_io _ hr, s.store8_of_io v hr]
      have : 0xFF00 ≤ addr.toNat := (region_eq_iff.mp hr).1
      refine State.ioRead_ioWrite_plain hio ⟨?_, ?_, ?_⟩ v
      · bv_omega
      · bv_omega
      · omega
  · rintro rfl
    exact s.toNat_read_p1 v
  · rintro rfl
    exact s.toNat_read_if v
  · have hr : region addr = .unusable := region_eq_iff.mpr ⟨hlo, hhi⟩
    simp only [State.store8, State.read8, hr, and_self]
  · have hr : region addr = .io := region_eq_io (by omega) (by omega)
    rw [State.read8_of_io _ hr, s.store8_of_io v hr]
    exact State.ioRead_ioWrite_wave hapu (by omega) (by omega) v
  · rw [s.read8_audio hk, s.apu.read_of_ne h16]
    congr 1
    by_cases hlow : k < 0x16
    · rw [if_pos hlow]
      interval_cases k <;> rfl
    · rw [if_neg hlow, readMask_above_nr52 (by omega)]
  · rw [show (0xFF26 : Addr) = BitVec.ofNat 16 (0xFF10 + 0x16) from rfl, s.read8_audio (by decide)]
    exact s.apu.toNat_readNr52

end Sys2Proof.Machine

/-! ## What a store reaches (O42) -/

namespace Sys2Proof.Machine

/-! ### The cartridge -/

/-- The RAM enable does not show in the image windows. -/
theorem Cart.read_withRamEnable (cart : Cart) (p : Params) (x : Bool) {a : Nat} (ha : a < 0x8000) :
    ({ cart with ramEnable := x } : Cart).read p a = cart.read p a := by
  rw [Cart.read_rom _ p ha, Cart.read_rom _ p ha]
  rfl

/-- The bank register shows in its window only. -/
theorem Cart.read_withRomBank (cart : Cart) (p : Params) (x : BitVec 5) {a : Nat} (ha : a < 0x4000 ∨ 0x8000 ≤ a) :
    ({ cart with romBank := x } : Cart).read p a = cart.read p a := by
  rcases ha with hlow | hhigh
  · have ha : a < 0x8000 := by omega
    rw [Cart.read_rom _ p ha, Cart.read_rom _ p ha, Cart.romOffset_fixed _ p hlow, Cart.romOffset_fixed _ p hlow]
  · have ha : ¬a < 0x8000 := by omega
    simp only [Cart.read, if_neg ha]
    rfl

/-- A cell of cartridge RAM shows at its own offset only. -/
theorem Cart.read_withRamCell (cart : Cart) (p : Params) {k : Nat} (v : Byte) {a : Nat} (ha : a < 0x8000 ∨ cart.ramOffset a ≠ k) :
    ({ cart with ram := Memory.write .cartRam cart.ram k v } : Cart).read p a = cart.read p a := by
  rcases ha with hlow | hoff
  · rw [Cart.read_rom _ p hlow, Cart.read_rom _ p hlow]
    rfl
  · exact if_congr Iff.rfl rfl (if_congr Iff.rfl (Memory.read_write_other .cartRam cart.ram v hoff) rfl)

section mbc1

variable {s : State} (hkind : s.cart.kind = .mbc1)
include hkind

theorem State.reaches_ramEnable {addr : Addr} (haddr : addr.toNat ≤ 0x1FFF) (a : Addr) :
    s.reaches addr a = decide (region a = .cartRam) := by
  have hr : region addr = .romFixed := region_eq_iff.mpr ⟨Nat.zero_le _, haddr.trans (by decide)⟩
  simp [State.reaches, hr, hkind, Nat.lt_succ_of_le haddr]

theorem State.reaches_romBank {addr : Addr} (hlo : 0x2000 ≤ addr.toNat) (hhi : addr.toNat ≤ 0x3FFF) (a : Addr) :
    s.reaches addr a = decide (region a = .romSwitch) := by
  have hr : region addr = .romFixed := region_eq_iff.mpr ⟨Nat.zero_le _, hhi⟩
  simp [State.reaches, hr, hkind, Nat.not_lt_of_le hlo]

theorem State.reaches_cartRam {addr : Addr} (hlo : 0xA000 ≤ addr.toNat) (hhi : addr.toNat ≤ 0xBFFF) (a : Addr) :
    s.reaches addr a =
      (decide (region a = .cartRam) && decide (s.cart.ramOffset a.toNat = s.cart.ramOffset addr.toNat)) := by
  have hr : region addr = .cartRam := region_eq_iff.mpr ⟨hlo, hhi⟩
  simp [State.reaches, hr, hkind]

/-- A write to an MBC1 cartridge shows only where `reaches` says. -/
theorem State.mbc1_read_write_of_not_reaches {addr a : Addr} (v : Byte) (haddr : IsCartAddr addr) (ha : IsCartAddr a)
    (h : s.reaches addr a = false) : (s.cart.write addr.toNat v).read s.params a.toNat = s.cart.read s.params a.toNat := by
  unfold IsCartAddr at haddr ha
  obtain hlo | ⟨hlo, hhi⟩ | ⟨hlo, hhi⟩ | ⟨hlo, hhi⟩ | ⟨hlo, hhi⟩ :
      addr.toNat ≤ 0x1FFF ∨ (0x2000 ≤ addr.toNat ∧ addr.toNat ≤ 0x3FFF) ∨ (0x4000 ≤ addr.toNat ∧ addr.toNat ≤ 0x5FFF) ∨
        (0x6000 ≤ addr.toNat ∧ addr.toNat ≤ 0x7FFF) ∨ (0xA000 ≤ addr.toNat ∧ addr.toNat ≤ 0xBFFF) := by omega
  · rw [State.reaches_ramEnable hkind hlo, decide_eq_false_iff_not, region_eq_iff] at h
    rw [Cart.write_mbc1_ramEnable hkind hlo]
    exact s.cart.read_withRamEnable _ _ (by simp only [Region.first, Region.last] at h; omega)
  · rw [State.reaches_romBank hkind hlo hhi, decide_eq_false_iff_not, region_eq_iff] at h
    rw [Cart.write_mbc1_romBank hkind hlo hhi]
    exact s.cart.read_withRomBank _ _ (by simp only [Region.first, Region.last] at h; omega)
  · rw [Cart.write_mbc1_upperBank hkind hlo hhi]
  · rw [Cart.write_mbc1_mode hkind hlo hhi]
    rfl
  · rw [State.reaches_cartRam hkind hlo hhi, Bool.and_eq_false_iff, decide_eq_false_iff_not, decide_eq_false_iff_not,
      region_eq_iff] at h
    rw [Cart.write_mbc1_cartRam hkind hlo]
    split
    · exact s.cart.read_withRamCell _ _ (h.imp_left fun h => by simp only [Region.first, Region.last] at h; omega)
    · rfl

end mbc1

/-- The cartridge shows in its own windows only. -/
theorem State.read8_withCart (s : State) (cart : Cart) {a : Addr} (ha : ¬IsCartAddr a) :
    ({ s with cart := cart } : State).read8 a = s.read8 a := by
  simp only [State.read8]
  cases hr : region a
  case romFixed | romSwitch | cartRam => exact absurd (isCartAddr_iff.mpr (by simp [hr])) ha
  all_goals rfl

theorem State.read8_store8_cart_of_not_reaches {s : State} {addr a : Addr} (v : Byte) (haddr : IsCartAddr addr)
    (h : s.reaches addr a = false) : (s.store8 addr v).read8 a = s.read8 a := by
  by_cases ha : IsCartAddr a
  · rw [s.read8_store8_cart v haddr ha, s.read8_cart ha]
    cases hkind : s.cart.kind with
    | romOnly => rw [Cart.write_romOnly hkind]
    | mbc1 => exact State.mbc1_read_write_of_not_reaches hkind v haddr ha h
  · rw [s.store8_cart_eq v haddr, s.read8_withCart _ ha]

/-! ### Plain storage -/

theorem offset_ne {a addr : Addr} {r : Region} (ha : region a = r) (haddr : region addr = r) (hne : a ≠ addr) :
    a.toNat - r.first ≠ addr.toNat - r.first := by
  have hne' : a.toNat ≠ addr.toNat := mt BitVec.eq_of_toNat_eq hne
  have := (region_eq_iff.mp ha).1
  have := (region_eq_iff.mp haddr).1
  omega

/-- VRAM, OAM and HRAM: each region has an array of its own. -/
theorem State.read8_store8_array_other (s : State) {addr a : Addr} {r : Region} (v : Byte)
    (hr : r = .vram ∨ r = .oam ∨ r = .hram) (haddr : region addr = r) (hne : a ≠ addr) :
    (s.store8 addr v).read8 a = s.read8 a := by
  by_cases ha : region a = r
  · have hoff := offset_ne ha haddr hne
    rcases hr with rfl | rfl | rfl <;> simp only [State.store8, State.read8, haddr, ha] <;>
      exact Memory.read_write_other _ _ v hoff
  · rcases hr with rfl | rfl | rfl <;> simp only [State.store8, State.read8, haddr] <;> split <;> simp_all [State.ioRead]

/-- IE is a region of one byte. -/
theorem State.read8_store8_ie_other (s : State) {addr a : Addr} (v : Byte) (haddr : region addr = .ie) (hne : a ≠ addr) :
    (s.store8 addr v).read8 a = s.read8 a := by
  simp only [State.store8, haddr, State.read8]
  cases ha : region a
  case ie =>
    obtain ⟨hlo, hhi⟩ := region_eq_iff.mp ha
    obtain ⟨hlo', hhi'⟩ := region_eq_iff.mp haddr
    exact absurd (BitVec.eq_of_toNat_eq ((hhi.antisymm hlo).trans (hhi'.antisymm hlo').symm)) hne
  all_goals rfl

theorem State.read8_withWram (s : State) (m : Memory) {a : Addr} (ha : isWork a = false) :
    ({ s with wram := m } : State).read8 a = s.read8 a := by
  simp only [State.read8]
  cases hr : region a
  case wram | echo => simp [isWork_iff_region.mpr, hr] at ha
  all_goals rfl

theorem State.read8_store8_work_other (s : State) {addr a : Addr} (v : Byte) (haddr : isWork addr = true)
    (hne : isWork a = true → workCell a ≠ workCell addr) : (s.store8 addr v).read8 a = s.read8 a := by
  rw [s.store8_work v haddr]
  by_cases ha : isWork a = true
  · rw [State.read8_work _ ha, s.read8_work ha, Memory.read_write_other .wram s.wram v (hne ha)]
  · exact s.read8_withWram _ (Bool.eq_false_iff.mpr ha)

/-! ### The I/O block -/

/-- A store into the I/O block shows in no other region. -/
theorem State.read8_ioWrite_of_ne_io (s : State) (k : Nat) (v : Byte) {a : Addr} (ha : region a ≠ .io) :
    (s.ioWrite k v).read8 a = s.read8 a := by
  simp only [State.read8]
  cases hr : region a
  case io => exact absurd hr ha
  all_goals rcases s.ioWrite_cases k v with ⟨_, h⟩ | ⟨_, h⟩ | ⟨_, h⟩ | ⟨_, h⟩ <;> rw [h]

/-- Every byte of the block but the audio window has a cell of its own. -/
theorem State.ioRead_ioWrite_other (s : State) {k j : Nat} (hk : ¬(0x10 ≤ k ∧ k ≤ 0x3F)) (hj : j ≠ k) (v : Byte) :
    (s.ioWrite k v).ioRead j = s.ioRead j := by
  by_cases hp1 : k = 0x00
  · subst hp1
    simp only [State.ioWrite, State.ioRead, if_pos, if_neg hj]
  · by_cases hif : k = 0x0F
    · subst hif
      simp only [State.ioWrite, State.ioRead, if_neg hp1, if_pos, if_neg hj]
    · rw [s.ioWrite_plain v ⟨hp1, hif, hk⟩]
      simp only [State.ioRead, Memory.read_write_other .io s.io v hj]

/-- The addresses 0xFF27 to 0xFF2F hold nothing (R344). -/
theorem State.ioWrite_unmapped (s : State) {k : Nat} (hlo : 0x27 ≤ k) (hhi : k ≤ 0x2F) (v : Byte) : s.ioWrite k v = s := by
  rw [s.ioWrite_audio (by omega) (by omega), Apu.write_unmapped _ _ (by omega) (by omega)]

/-- An audio register shows in the audio window only. -/
theorem State.ioRead_ioWrite_audio (s : State) {k j : Nat} (hk : 0x10 ≤ k ∧ k ≤ 0x3F) (v : Byte)
    (h : 0x10 ≤ j → j ≤ 0x3F → k ≠ 0x26 ∧ j ≠ k ∧ (j = 0x26 → 0x27 ≤ k)) : (s.ioWrite k v).ioRead j = s.ioRead j := by
  rw [s.ioWrite_audio hk.1 hk.2]
  by_cases hj : 0x10 ≤ j ∧ j ≤ 0x3F
  · obtain ⟨hk26, hjk, hstatus⟩ := h hj.1 hj.2
    rw [State.ioRead_audio _ hj.1 hj.2, s.ioRead_audio hj.1 hj.2]
    exact Apu.read_write_other _ _ (by omega) (by omega) (by omega) v
  · simp only [State.ioRead, if_neg hj]

/-- A store into the I/O block shows only where `reaches` says. -/
theorem State.read8_store8_io_of_not_reaches {s : State} {addr a : Addr} (v : Byte) (haddr : region addr = .io)
    (h : s.reaches addr a = false) : (s.store8 addr v).read8 a = s.read8 a := by
  rw [s.store8_of_io v haddr]
  by_cases ha : region a = .io
  · rw [State.read8_of_io _ ha, s.read8_of_io ha]
    have hlo : 0xFF00 ≤ addr.toNat := (region_eq_iff.mp haddr).1
    have halo : 0xFF00 ≤ a.toNat := (region_eq_iff.mp ha).1
    simp only [State.reaches, haddr] at h
    by_cases hgap : 0xFF27 ≤ addr.toNat ∧ addr.toNat ≤ 0xFF2F
    · rw [s.ioWrite_unmapped (by omega) (by omega)]
    · by_cases haudio : 0x10 ≤ addr.toNat - 0xFF00 ∧ addr.toNat - 0xFF00 ≤ 0x3F
      · refine s.ioRead_ioWrite_audio haudio v fun hj hj' => ?_
        split_ifs at h <;> simp only [decide_eq_false_iff_not] at h <;> bv_omega
      · refine s.ioRead_ioWrite_other haudio ?_ v
        split_ifs at h <;> simp only [decide_eq_false_iff_not] at h <;> bv_omega
  · exact s.read8_ioWrite_of_ne_io _ v ha

/-! ### Every region -/

theorem State.read8_store8_of_not_reaches {s : State} {addr a : Addr} (v : Byte) (h : s.reaches addr a = false) :
    (s.store8 addr v).read8 a = s.read8 a := by
  have hcell : s.reaches addr a = decide (a = addr) → a ≠ addr := fun heq => by
    rwa [heq, decide_eq_false_iff_not] at h
  cases hr : region addr with
  | romFixed | romSwitch | cartRam => exact State.read8_store8_cart_of_not_reaches v (isCartAddr_iff.mpr (by simp [hr])) h
  | vram | oam | hram => exact s.read8_store8_array_other v (by simp) hr (hcell (by simp only [State.reaches, hr]))
  | ie => exact s.read8_store8_ie_other v hr (hcell (by simp only [State.reaches, hr]))
  | wram | echo =>
    refine s.read8_store8_work_other v (isWork_iff_region.mpr (by simp [hr])) fun ha => ?_
    simpa [State.reaches, hr, ha] using h
  | unusable => simp only [State.store8, hr]
  | io => exact State.read8_store8_io_of_not_reaches v hr h

/-- Settles O42: the readings by the region of the address stored to, the rest by what no store reaches. -/
theorem storeReachesOnlyItsCells : Obligations.StoreReachesOnlyItsCells := by
  intro s addr v
  obtain ⟨ha, hf, hb, hc, hd, he, hh, hl, hsp, hpc, hcycles, hhaltBug⟩ := s.store8_regs addr v
  have hregs : s.RegsSameBut (s.store8 addr v) [] := fun r _ => by cases r <;> assumption
  obtain ⟨-, hrom, hkind, hbanks, hsize⟩ := s.store8_sameMachine addr v
  exact ⟨fun a h => State.read8_store8_of_not_reaches v h, hregs, hf, hsp, hpc, hcycles, hhaltBug, s.store8_control addr v, hrom, hkind,
    hbanks, hsize⟩

end Sys2Proof.Machine

/-! ## Decoding what was encoded, and encoding what was decoded (R120 to R138) -/

namespace Sys2Proof

/-! ### From the instruction to its bytes and back -/

/-- What `decodeWindow` reads where `operands` stand behind `op`, and `x` and `y` behind them. -/
def decodeOperands (op : Byte) (operands : List Byte) (x y : Byte) : Instr :=
  match operands with
  | [] => decodeWindow op x y
  | [b1] => decodeWindow op b1 x
  | b1 :: b2 :: _ => decodeWindow op b1 b2

/-- Bytes as long as their first one tells, read as `i` whatever follows, are decoded to `i`, and what follows is left. -/
theorem decode_append {i : Instr} {op : Byte} {operands rest : List Byte} (hlen : operands.length + 1 = lengthOf op)
    (hreads : ∀ x y, decodeOperands op operands x y = i) : decode (op :: operands ++ rest) = .ok (i, rest) := by
  have hwindow : decodeWindow op ((operands ++ rest).getD 0 0) ((operands ++ rest).getD 1 0) = i :=
    match operands with
    | [] => hreads _ _
    | [_] => hreads _ 0
    | _ :: _ :: _ => hreads 0 0
  simp [decode, ← hlen, ← hwindow]

/-- An instruction with a word operand reads the word back from the two bytes behind its first one. -/
theorem decode_append_word {form : Addr → Instr} {op : Byte} {rest : List Byte} (hlen : 3 = lengthOf op)
    (hform : ∀ b1 b2, decodeWindow op b1 b2 = form (wordOf b1 b2)) (n : Addr) :
    decode ([op, loByte n, hiByte n] ++ rest) = .ok (form n, rest) :=
  decode_append hlen fun _ _ => (hform _ _).trans (congrArg form (Machine.wordOf_lo_hi n))

/-- Settles O1: the forms with a word operand put its two bytes together again; of every other form the bytes are read as
they stand. -/
theorem decodeOfEncodeIsTheInstruction : Obligations.DecodeOfEncodeIsTheInstruction := by
  intro i rest
  cases i with
  | ldBcN16 n | ldDeN16 n | ldHlN16 n | ldSpN16 n | ldAtN16Sp n | ldAtN16A n | ldAAtN16 n | jpN16 n | jpNzN16 n | jpZN16 n | jpNcN16 n
  | jpCN16 n | callN16 n | callNzN16 n | callZN16 n | callNcN16 n | callCN16 n =>
    exact decode_append_word rfl (fun _ _ => rfl) n
  | _ => exact decode_append rfl fun _ _ => rfl

/-- Settles O3: each word is the encoding of its instruction, followed by no byte but in the last one. -/
theorem wordsWrittenOutDecode : Obligations.WordsWrittenOutDecode := by
  have roundTrip := decodeOfEncodeIsTheInstruction
  exact ⟨roundTrip .ldBC [], roundTrip (.ldAtHlN8 0x7F) [], roundTrip (.ldHlN16 0x1234) [], roundTrip .pushAf [], roundTrip .sbcAAtHl [],
    roundTrip .incAtHl [], roundTrip .addHlSp [], roundTrip .sraE [], roundTrip .bit7H [], roundTrip (.jrNcE8 0xFA) [],
    roundTrip (.callZN16 0x0200) [], roundTrip .rst28 [], roundTrip .reti [], roundTrip .halt [], roundTrip (.stop 0x99) [0x01]⟩

/-! ### The byte of three fields (R126) -/

/-- The opcode byte with the fields `x`, `y` and `z`. -/
def opByte (x : Fin 4) (y z : Fin 8) : Byte :=
  (BitVec.ofFin x : BitVec 2) ++ (BitVec.ofFin y : BitVec 3) ++ (BitVec.ofFin z : BitVec 3)

theorem opByte_fields (op : Byte) : opByte (fieldX op) (fieldY op) (fieldZ op) = op := by
  revert op; decide

@[simp] theorem fieldX_opByte (x : Fin 4) (y z : Fin 8) : fieldX (opByte x y z) = x := by
  revert x y z; decide
@[simp] theorem fieldY_opByte (x : Fin 4) (y z : Fin 8) : fieldY (opByte x y z) = y := by
  revert x y z; decide
@[simp] theorem fieldZ_opByte (x : Fin 4) (y z : Fin 8) : fieldZ (opByte x y z) = z := by
  revert x y z; decide

/-! ### The bytes of the families without operand bytes -/

theorem encode_alu : ∀ y z : Fin 8, encode (Form.alu (aluOpOf y) (operandOf z)) = [opByte 2 y z] := by decide

theorem encode_rot : ∀ y z : Fin 8, encode (Form.rot (rotOpOf y) (operandOf z)) = [0xCB, opByte 0 y z] := by decide

theorem encode_bit : ∀ y z : Fin 8, encode (Form.bit y (operandOf z)) = [0xCB, opByte 1 y z] := by decide

theorem encode_res : ∀ y z : Fin 8, encode (Form.res y (operandOf z)) = [0xCB, opByte 2 y z] := by decide

theorem encode_set : ∀ y z : Fin 8, encode (Form.set y (operandOf z)) = [0xCB, opByte 3 y z] := by decide

/-! ### The bytes of each block of the opcode map -/

/-- An instruction with a word operand gives the two bytes of the word back. -/
theorem encode_wordOf {form : Addr → Instr} {op : Byte} (hform : ∀ n, encode (form n) = [op, loByte n, hiByte n]) (b1 b2 : Byte) :
    encode (form (wordOf b1 b2)) = [op, b1, b2] := by
  rw [hform, wordOf, Machine.loByte_append, Machine.hiByte_append]

theorem encode_decodeBlock0 (y z : Fin 8) (b1 b2 : Byte) :
    encode (decodeBlock0 (opByte 0 y z) b1 b2) = [opByte 0 y z, b1, b2].take (lengthOf (opByte 0 y z)) := by
  match z with
  | 0 =>
    match y with
    | 1 => exact encode_wordOf (fun _ => rfl) b1 b2
    | 0 | 2 | 3 | 4 | 5 | 6 | 7 => rfl
  | 1 =>
    match y with
    | 0 | 2 | 4 | 6 => exact encode_wordOf (fun _ => rfl) b1 b2
    | 1 | 3 | 5 | 7 => rfl
  | 2 | 3 | 4 | 5 | 6 | 7 => fin_cases y <;> rfl

theorem encode_decodeBlock1 : ∀ y z : Fin 8, encode (decodeBlock1 (opByte 1 y z)) = [opByte 1 y z] := by decide

theorem encode_decodeBlock2 (y z : Fin 8) : encode (decodeBlock2 (opByte 2 y z)) = [opByte 2 y z] := by
  simp [decodeBlock2, encode_alu]

theorem encode_decodeCb (op2 : Byte) : encode (decodeCb op2) = [0xCB, op2] := by
  rw [← opByte_fields op2]
  generalize fieldX op2 = x
  match x with
  | 0 => simp [decodeCb, encode_rot]
  | 1 => simp [decodeCb, encode_bit]
  | 2 => simp [decodeCb, encode_res]
  | 3 => simp [decodeCb, encode_set]

theorem encode_decodeBlock3 (y z : Fin 8) (b1 b2 : Byte) :
    encode (decodeBlock3 (opByte 3 y z) b1 b2) = [opByte 3 y z, b1, b2].take (lengthOf (opByte 3 y z)) := by
  match z with
  | 2 =>
    match y with
    | 0 | 1 | 2 | 3 | 5 | 7 => exact encode_wordOf (fun _ => rfl) b1 b2
    | 4 | 6 => rfl
  | 3 =>
    match y with
    | 0 => exact encode_wordOf (fun _ => rfl) b1 b2
    | 1 => exact encode_decodeCb b1
    | 2 | 3 | 4 | 5 | 6 | 7 => rfl
  | 4 =>
    match y with
    | 0 | 1 | 2 | 3 => exact encode_wordOf (fun _ => rfl) b1 b2
    | 4 | 5 | 6 | 7 => rfl
  | 5 =>
    match y with
    | 1 => exact encode_wordOf (fun _ => rfl) b1 b2
    | 0 | 2 | 3 | 4 | 5 | 6 | 7 => rfl
  | 0 | 1 | 6 | 7 => fin_cases y <;> rfl

/-- Settles O2: the first byte is put together from its fields, and each block of the opcode map gives its bytes back. -/
theorem encodeOfDecodedBytesGivesThemBack : Obligations.EncodeOfDecodedBytesGivesThemBack := by
  intro op b1 b2
  rw [← opByte_fields op]
  generalize fieldX op = x, fieldY op = y, fieldZ op = z
  match x with
  | 0 => simp [decodeWindow, encode_decodeBlock0]
  | 1 => simp [decodeWindow, lengthOf, encode_decodeBlock1]
  | 2 => simp [decodeWindow, lengthOf, encode_decodeBlock2]
  | 3 => simp [decodeWindow, encode_decodeBlock3]

end Sys2Proof

/-! ## What an 8-bit load or store leaves unchanged

A load is a chain of register updates, each of which is quiet; a store is one byte stored with quiet updates on either side. -/

namespace Sys2Proof.Machine

/-! ### Quiet updates -/

theorem State.ControlSame.trans {s t u : State} (h : s.ControlSame t) (h' : t.ControlSame u) : s.ControlSame u where
  execState := h'.execState.trans h.execState
  ime := h'.ime.trans h.ime
  eiPending := h'.eiPending.trans h.eiPending
  apuNext := h'.apuNext.trans h.apuNext
  params := h'.params.trans h.params
  schedule := h'.schedule.trans h.schedule

theorem State.Quiet.trans {s t u : State} (h : s.Quiet t) (h' : t.Quiet u) : s.Quiet u :=
  quiet_of (h.control.trans h'.control) (h.stores.trans h'.stores)

theorem State.quiet_fetched (s : State) (n : Addr) : s.Quiet (s.fetched n) :=
  quiet_of (by constructor <;> rfl) (by constructor <;> rfl)

theorem State.quiet_tick (s : State) (n : Nat) : s.Quiet (s.tick n) :=
  quiet_of (by constructor <;> rfl) (by constructor <;> rfl)

theorem State.quiet_setReg8 (s : State) (r : Reg8) (v : Byte) : s.Quiet (s.setReg8 r v) :=
  quiet_of (by constructor <;> simp) (by constructor <;> simp)

theorem State.quiet_stepPointer (s : State) (p : Pointer) : s.Quiet (s.stepPointer p) :=
  quiet_of (by constructor <;> simp) (by constructor <;> simp)

/-! ### The eight-bit registers -/

@[simp] theorem State.fetched_reg8 (s : State) (n : Addr) (r : Reg8) : (s.fetched n).reg8 r = s.reg8 r := rfl

/-- Using a pointer changes no register but H and L. -/
theorem State.RegsSameBut.stepPointer {s t : State} {written : List Reg8} (h : s.RegsSameBut t written) (p : Pointer) :
    s.RegsSameBut (t.stepPointer p) (written ++ [.h, .l]) := fun r hr => by
  simp only [List.mem_append, List.mem_cons, List.not_mem_nil, or_false, not_or] at hr
  obtain ⟨hwritten, hh, hl⟩ := hr
  rw [← h r hwritten]
  cases r with
  | h => exact absurd rfl hh
  | l => exact absurd rfl hl
  | b | c | d | e | a => simp [State.reg8]

/-- The number HL holds after the use of a pointer, from the number it held before (R165 to R168). -/
def hlAfter (p : Pointer) (hl : Nat) : Nat :=
  match p with
  | .bc | .de => hl
  | .hlInc => (hl + 1) % 65536
  | .hlDec => (hl + 65535) % 65536

theorem State.toNat_stepPointer_hl {s t : State} (hh : t.h = s.h) (hl : t.l = s.l) (p : Pointer) :
    ((t.stepPointer p).h ++ (t.stepPointer p).l).toNat = hlAfter p (s.h ++ s.l).toNat := by
  have hsame : t.hl = s.hl := congrArg₂ (· ++ ·) hh hl
  change (t.stepPointer p).hl.toNat = hlAfter p s.hl.toNat
  rw [← hsame]
  cases p with
  | bc | de => rfl
  | hlInc => simp [State.stepPointer, hlAfter]
  | hlDec =>
    simp only [State.stepPointer, State.setHl_hl, hlAfter]
    bv_omega

/-! ### The high page (R124) -/

theorem highPage_eq (v : Byte) : highPage v = 0xFF#8 ++ v := by
  apply BitVec.eq_of_toNat_eq
  rw [toNat_append_eq_add, highPage]
  simp
  omega

/-- No mapper window lies in the high page, so a store there cannot fault (R97). -/
theorem State.writeFaults_highPage (s : State) (n v : Byte) : s.writeFaults (highPage n) v = false := by
  rw [Bool.eq_false_iff, ne_eq, s.writeFaults_iff, highPage_eq, toNat_append_eq_add]
  simp
  omega

/-! ### One byte stored -/

theorem State.StoredByte.of_stores {s t : State} {addr : Addr} {v : Byte} (h : (s.store8 addr v).StoresSame t)
    (hp : t.params = s.params) : s.StoredByte addr v t :=
  have hreads := read8_congr h (hp.trans (s.store8_params addr v).symm)
  ⟨h, hreads, fun a ha => (hreads a).trans (read8_store8_of_not_reaches v ha)⟩

/-- A quiet update before the store. -/
theorem State.Quiet.storedByte {s u : State} (h : s.Quiet u) (addr : Addr) (v : Byte) :
    s.StoredByte addr v (u.store8 addr v) :=
  .of_stores (store8_congr h.stores h.control.params addr v) ((u.store8_params addr v).trans h.control.params)

/-- A quiet update after the store. -/
theorem State.StoredByte.quiet {s t u : State} {addr : Addr} {v : Byte} (h : s.StoredByte addr v t) (hq : t.Quiet u) :
    s.StoredByte addr v u where
  stores := h.stores.trans hq.stores
  reads a := (hq.memory a).trans (h.reads a)
  frame a ha := (hq.memory a).trans (h.frame a ha)

/-- The fetch of an instruction of `n` bytes and its write, where that does not fault: one byte is stored, and nothing else but PC
has changed. -/
theorem State.fetched_write8_spec {s : State} {addr : Addr} {v : Byte} (h : s.writeFaults addr v = false) (n : Addr) :
    ∃ u, (s.fetched n).write8 addr v = .next u ∧ s.StoredByte addr v u ∧ s.RegsSameBut u [] ∧ u.f = s.f ∧ u.sp = s.sp ∧
      s.Advances u n 0 ∧ s.ControlSame u := by
  obtain ⟨-, hregs, hf, hsp, hpc, hcycles, hhaltBug, hcontrol, -⟩ := storeReachesOnlyItsCells (s.fetched n) addr v
  have hquiet := s.quiet_fetched n
  exact ⟨_, write8_of_ok h, hquiet.storedByte addr v, hregs, hf, hsp, ⟨hpc, hhaltBug, hcycles⟩,
    hquiet.control.trans hcontrol⟩

theorem State.Advances.tick {s t : State} {n : Addr} {cost : Nat} (h : s.Advances t n 0) : s.Advances (t.tick cost) n cost where
  pc := h.pc
  haltBug := h.haltBug
  cycles := congrArg (· + cost) h.cycles

theorem State.Advances.stepPointer {s t : State} {n : Addr} {cost : Nat} (h : s.Advances t n cost) (p : Pointer) :
    s.Advances (t.stepPointer p) n cost where
  pc := (t.stepPointer_pc p).trans h.pc
  haltBug := (t.stepPointer_haltBug p).trans h.haltBug
  cycles := (t.stepPointer_cycles p).trans h.cycles

end Sys2Proof.Machine

/-! ## The 8-bit loads (O12, O13) -/

namespace Sys2Proof.Machine

/-- The fetch of an instruction of `n` bytes and its write of a register: nothing else but PC has changed. -/
theorem State.fetched_setReg8_spec (s : State) (dst : Reg8) (v : Byte) (n : Addr) :
    ∃ u, (s.fetched n).setReg8 dst v = u ∧ u.reg8 dst = v ∧ s.RegsSameBut u [dst] ∧ u.f = s.f ∧ u.sp = s.sp ∧
      s.Advances u n 0 ∧ s.Quiet u := by
  have hadvances : s.Advances ((s.fetched n).setReg8 dst v) n 0 := by constructor <;> simp [State.pcAfter]
  refine ⟨_, rfl, by simp, fun r hr => ?_, by simp, by simp, hadvances, (s.quiet_fetched n).trans (quiet_setReg8 _ dst v)⟩
  have hne : r ≠ dst := by simpa using hr
  simp [hne]

/-- What every load that leaves HL alone does. -/
theorem State.load_spec (s : State) (dst : Reg8) (v : Byte) (n : Addr) (cost : Nat) :
    ∃ t, (.next (((s.fetched n).setReg8 dst v).tick cost) : Result) = .next t ∧ t.reg8 dst = v ∧ s.RegsSameBut t [dst] ∧
      t.f = s.f ∧ t.sp = s.sp ∧ s.Advances t n cost ∧ s.Quiet t := by
  obtain ⟨u, rfl, hdst, hregs, hf, hsp, hadvances, hquiet⟩ := s.fetched_setReg8_spec dst v n
  exact ⟨_, rfl, hdst, hregs, hf, hsp, hadvances.tick, hquiet.trans (quiet_tick _ cost)⟩

/-- Settles O12: each of the three forms is a load of the register. -/
theorem registerLoadsWriteOneRegister : Obligations.RegisterLoadsWriteOneRegister := by
  intro dst s
  refine ⟨fun src => ?_, fun n => ?_, ?_⟩
  · rw [exec_ldRegReg]
    exact s.load_spec dst (s.reg8 src) 1 4
  · rw [exec_ldN8]
    exact s.load_spec dst n 2 8
  · rw [exec_ldRegAtHl]
    exact s.load_spec dst (s.read8 s.hl) 1 8

theorem loadAFrom_spec (addr n : Addr) (cost : Nat) (s : State) :
    ∃ t, loadAFrom addr n cost s = .next t ∧ t.a = s.read8 addr ∧ s.RegsSameBut t [.a] ∧ t.f = s.f ∧ t.sp = s.sp ∧
      s.Advances t n cost ∧ s.Quiet t :=
  s.load_spec .a (s.read8 addr) n cost

theorem loadAPointer_spec (p : Pointer) (s : State) :
    ∃ t, loadAPointer p s = .next t ∧ t.a = s.read8 (s.pointerAddr p) ∧ (t.h ++ t.l).toNat = hlAfter p (s.h ++ s.l).toNat ∧
      s.RegsSameBut t [.a, .h, .l] ∧ t.f = s.f ∧ t.sp = s.sp ∧ s.Advances t 1 8 ∧ s.Quiet t := by
  obtain ⟨u, hu, ha, hregs, hf, hsp, hadvances, hquiet⟩ := s.fetched_setReg8_spec .a (s.read8 (s.pointerAddr p)) 1
  refine ⟨(u.stepPointer p).tick 8, by rw [← hu]; rfl, (u.stepPointer_a p).trans ha,
    State.toNat_stepPointer_hl (hregs .h (by decide)) (hregs .l (by decide)) p, hregs.stepPointer p, (u.stepPointer_f p).trans hf,
    (u.stepPointer_sp p).trans hsp, (hadvances.stepPointer p).tick, ?_⟩
  exact (hquiet.trans (u.quiet_stepPointer p)).trans (State.quiet_tick _ 8)

/-- Settles O13: the HL forms use their pointer, the others load from an address. -/
theorem accumulatorLoadsReadTheirAddress : Obligations.AccumulatorLoadsReadTheirAddress := by
  intro s
  refine ⟨loadAFrom_spec (s.b ++ s.c) 1 8 s, loadAFrom_spec (s.d ++ s.e) 1 8 s, loadAPointer_spec .hlInc s,
    loadAPointer_spec .hlDec s, fun n => loadAFrom_spec n 3 16 s, ?_, fun n => ?_⟩
  · rw [← highPage_eq]
    exact loadAFrom_spec (highPage s.c) 1 8 s
  · rw [← highPage_eq]
    exact loadAFrom_spec (highPage n) 2 12 s

end Sys2Proof.Machine

/-! ## The 8-bit stores (O14, O15) -/

namespace Sys2Proof.Machine

/-- What every store that leaves HL alone does, where its write does not fault. -/
theorem State.store_spec {s : State} {addr : Addr} {v : Byte} (h : s.writeFaults addr v = false) (n : Addr) (cost : Nat) :
    ∃ t, ((s.fetched n).write8 addr v).thenTick cost = .next t ∧ s.StoredByte addr v t ∧ s.RegsSameBut t [] ∧ t.f = s.f ∧
      t.sp = s.sp ∧ s.Advances t n cost ∧ s.ControlSame t := by
  obtain ⟨u, hu, hstored, hregs, hf, hsp, hadvances, hcontrol⟩ := fetched_write8_spec h n
  have hquiet := u.quiet_tick cost
  exact ⟨_, Result.thenTick_eq_next.mpr ⟨u, hu, rfl⟩, hstored.quiet hquiet, hregs, hf, hsp, hadvances.tick,
    hcontrol.trans hquiet.control⟩

/-- Settles O14: both forms are a store at HL. -/
theorem storesAtHlWriteOneByte : Obligations.StoresAtHlWriteOneByte := by
  intro s
  refine ⟨fun src h => ?_, fun n h => ?_⟩
  · rw [exec_ldAtHlReg]
    exact State.store_spec h 1 8
  · rw [exec_ldN8]
    exact State.store_spec h 2 12

theorem storePointerA_spec (p : Pointer) {s : State} (h : s.writeFaults (s.pointerAddr p) s.a = false) :
    ∃ t, storePointerA p s = .next t ∧ s.StoredByte (s.pointerAddr p) s.a t ∧
      (t.h ++ t.l).toNat = hlAfter p (s.h ++ s.l).toNat ∧ s.RegsSameBut t [.h, .l] ∧ t.f = s.f ∧ t.sp = s.sp ∧
      s.Advances t 1 8 ∧ s.ControlSame t := by
  obtain ⟨u, hu, hstored, hregs, hf, hsp, hadvances, hcontrol⟩ := State.fetched_write8_spec h 1
  have hquiet := (u.quiet_stepPointer p).trans (State.quiet_tick _ 8)
  exact ⟨_, Result.andThen_eq_next.mpr ⟨u, hu, rfl⟩, hstored.quiet hquiet,
    State.toNat_stepPointer_hl (hregs .h (by decide)) (hregs .l (by decide)) p, hregs.stepPointer p, (u.stepPointer_f p).trans hf,
    (u.stepPointer_sp p).trans hsp, (hadvances.stepPointer p).tick, hcontrol.trans hquiet.control⟩

/-- Settles O15: the pointer forms step their pointer after the store; the high page holds no mapper window. -/
theorem accumulatorStoresWriteOneByte : Obligations.AccumulatorStoresWriteOneByte := by
  intro s
  refine ⟨fun p h => ?_, fun n h => State.store_spec h 3 16, ?_, fun n => ?_⟩
  · rw [exec_ldPointerA]
    exact storePointerA_spec p h
  · rw [← highPage_eq]
    exact State.store_spec (s.writeFaults_highPage s.c s.a) 1 8
  · rw [← highPage_eq]
    exact State.store_spec (s.writeFaults_highPage n s.a) 2 12

end Sys2Proof.Machine

/-! ## What a 16-bit load or a stack instruction leaves unchanged

A load of a pair is a chain of quiet register updates; a 16-bit store and a push store two bytes and keep every register but SP. -/

namespace Sys2Proof

/-- The eight-bit registers that a pair of the first table of R123 is made of. -/
def Reg16.parts (r : Reg16) : List Reg8 :=
  match r with
  | .bc => [.b, .c]
  | .de => [.d, .e]
  | .hl => [.h, .l]
  | .sp => []

/-- The same for the second table of R123, whose F is no eight-bit register. -/
def StackReg.parts (r : StackReg) : List Reg8 :=
  match r with
  | .bc => [.b, .c]
  | .de => [.d, .e]
  | .hl => [.h, .l]
  | .af => [.a]

end Sys2Proof

namespace Sys2Proof.Machine

/-! ### Quiet updates of pairs and of the stack pointer -/

theorem State.quiet_setReg16 (s : State) (r : Reg16) (v : Addr) : s.Quiet (s.setReg16 r v) :=
  quiet_of (by constructor <;> simp) (by constructor <;> simp)

theorem State.quiet_setStackReg (s : State) (r : StackReg) (v : Addr) : s.Quiet (s.setStackReg r v) :=
  quiet_of (by constructor <;> simp) (by constructor <;> simp)

theorem State.quiet_setFlags (s : State) (z n h c : Bool) : s.Quiet (s.setFlags z n h c) :=
  quiet_of (by constructor <;> rfl) (by constructor <;> rfl)

theorem State.quiet_popped (s : State) : s.Quiet s.popped :=
  quiet_of (by constructor <;> rfl) (by constructor <;> rfl)

/-! ### The registers of a pair -/

theorem State.regsSameBut_setReg16 (s : State) (r : Reg16) (v : Addr) : s.RegsSameBut (s.setReg16 r v) r.parts := fun q hq => by
  cases r with
  | bc | de | hl => cases q <;> simp_all [Reg16.parts, State.setReg16, State.reg8]
  | sp => rfl

theorem State.regsSameBut_setStackReg (s : State) (r : StackReg) (v : Addr) :
    s.RegsSameBut (s.setStackReg r v) r.parts := fun q hq => by
  cases r with
  | bc | de | hl | af => cases q <;> simp_all [StackReg.parts, State.setStackReg, State.reg8]

/-- The fetch of an instruction of `n` bytes and its write of a pair: PC has changed, and nothing else outside the pair. -/
theorem State.fetched_setReg16_spec (s : State) (r : Reg16) (v n : Addr) :
    ∃ u, (s.fetched n).setReg16 r v = u ∧ u.reg16 r = v ∧ (∀ q, q ≠ r → u.reg16 q = s.reg16 q) ∧ s.RegsSameBut u r.parts ∧
      u.f = s.f ∧ s.Advances u n 0 ∧ s.Quiet u := by
  have hadvances : s.Advances ((s.fetched n).setReg16 r v) n 0 := by constructor <;> simp [State.pcAfter]
  refine ⟨_, rfl, by simp, fun q hq => ?_, (s.fetched n).regsSameBut_setReg16 r v, by simp, hadvances,
    (s.quiet_fetched n).trans (quiet_setReg16 _ r v)⟩
  rw [State.setReg16_reg16, if_neg hq]
  rfl

/-! ### Two bytes stored -/

/-- Everything but SP and what a store can reach is the same. -/
structure State.CoreSame (s t : State) : Prop where
  regs : s.RegsSameBut t []
  f : t.f = s.f
  pc : t.pc = s.pc
  cycles : t.cycles = s.cycles
  haltBug : t.haltBug = s.haltBug
  control : s.ControlSame t

theorem State.CoreSame.trans {s t u : State} (h : s.CoreSame t) (h' : t.CoreSame u) : s.CoreSame u where
  regs r hr := (h'.regs r hr).trans (h.regs r hr)
  f := h'.f.trans h.f
  pc := h'.pc.trans h.pc
  cycles := h'.cycles.trans h.cycles
  haltBug := h'.haltBug.trans h.haltBug
  control := h.control.trans h'.control

theorem State.store8_coreSame (s : State) (addr : Addr) (v : Byte) : s.CoreSame (s.store8 addr v) := by
  obtain ⟨-, hregs, hf, -, hpc, hcycles, hhaltBug, hcontrol, -⟩ := storeReachesOnlyItsCells s addr v
  exact ⟨hregs, hf, hpc, hcycles, hhaltBug, hcontrol⟩

/-- What keeps the core of a fetched state has advanced by the fetch. -/
theorem State.CoreSame.advances {s t : State} {n : Addr} (h : (s.fetched n).CoreSame t) : s.Advances t n 0 where
  pc := h.pc
  haltBug := h.haltBug
  cycles := h.cycles

/-- What a store reaches depends on the kind of cartridge and the size of its RAM, which no store changes. -/
theorem State.SameMachine.reaches {s t : State} (h : s.SameMachine t) (addr a : Addr) : t.reaches addr a = s.reaches addr a := by
  have hoffset (k : Nat) : t.cart.ramOffset k = s.cart.ramOffset k := congrArg ((k - 0xA000) % ·) h.ramSize
  unfold State.reaches
  cases region addr with
  | romFixed => simp only [h.kind]
  | cartRam => simp only [h.kind, hoffset]
  | romSwitch | vram | wram | echo | oam | unusable | io | hram | ie => rfl

theorem State.StoredTwo.of_stores {s t : State} {addr addr' : Addr} {v w : Byte}
    (h : ((s.store8 addr v).store8 addr' w).StoresSame t) (hp : t.params = s.params) : s.StoredTwo addr v addr' w t := by
  have hreads := read8_congr h (by simp [hp])
  refine ⟨h, hreads, fun a ha ha' => ?_⟩
  have hsecond : (s.store8 addr v).reaches addr' a = false := ((s.store8_sameMachine addr v).reaches addr' a).trans ha'
  calc t.read8 a = ((s.store8 addr v).store8 addr' w).read8 a := hreads a
    _ = (s.store8 addr v).read8 a := read8_store8_of_not_reaches w hsecond
    _ = s.read8 a := read8_store8_of_not_reaches v ha

/-- An update before the two stores that changes no store. -/
theorem State.StoredTwo.after_update {s u t : State} {addr addr' : Addr} {v w : Byte} (h : u.StoredTwo addr v addr' w t)
    (hs : s.StoresSame u) (hp : u.params = s.params) : s.StoredTwo addr v addr' w t := by
  have hfirst := store8_congr hs hp addr v
  have hboth := store8_congr hfirst (by simp [hp]) addr' w
  have hreaches := (SameMachine.of_cart hp hs.cart).reaches
  exact ⟨hboth.trans h.stores, fun a => (h.reads a).trans (read8_congr hboth (by simp [hp]) a), fun a ha ha' =>
    (h.frame a ((hreaches addr a).trans ha) ((hreaches addr' a).trans ha')).trans (read8_congr hs hp a)⟩

/-- A quiet update after the two stores. -/
theorem State.StoredTwo.quiet {s t u : State} {addr addr' : Addr} {v w : Byte} (h : s.StoredTwo addr v addr' w t) (hq : t.Quiet u) :
    s.StoredTwo addr v addr' w u where
  stores := h.stores.trans hq.stores
  reads a := (hq.memory a).trans (h.reads a)
  frame a ha ha' := (hq.memory a).trans (h.frame a ha ha')

/-- Two stores between the fetch of an instruction of `n` bytes and its cost. -/
theorem State.StoredTwo.fetched_tick {s u : State} {n addr addr' : Addr} {v w : Byte}
    (h : (s.fetched n).StoredTwo addr v addr' w u) (hcore : (s.fetched n).CoreSame u) (cost : Nat) :
    s.StoredTwo addr v addr' w (u.tick cost) ∧ s.RegsSameBut (u.tick cost) [] ∧ (u.tick cost).f = s.f ∧
      s.Advances (u.tick cost) n cost ∧ s.ControlSame (u.tick cost) := by
  have hbefore := s.quiet_fetched n
  have hafter := u.quiet_tick cost
  exact ⟨(h.after_update hbefore.stores hbefore.control.params).quiet hafter, hcore.regs, hcore.f, hcore.advances.tick,
    (hbefore.control.trans hcore.control).trans hafter.control⟩

/-- `MemWrite(addr, 2, v)` (R78), where neither of its writes faults. -/
theorem State.write16_spec {s : State} {addr v : Addr} (h : s.TwoWritesOk addr (loByte v) (addr + 1) (hiByte v)) :
    ∃ t, s.write16 addr v = .next t ∧ s.StoredTwo addr (loByte v) (addr + 1) (hiByte v) t ∧ t.sp = s.sp ∧ s.CoreSame t :=
  ⟨_, write16_of_ok h, .of_stores (.refl _) (by simp), by simp, (s.store8_coreSame _ _).trans (store8_coreSame _ _ _)⟩

/-- `Push16(v)` (R8), where neither of its writes faults. -/
theorem State.push16_spec {s : State} {v : Addr} (h : s.TwoWritesOk (s.sp - 1) (hiByte v) (s.sp - 2) (loByte v)) :
    ∃ t, s.push16 v = .next t ∧ s.StoredTwo (s.sp - 1) (hiByte v) (s.sp - 2) (loByte v) t ∧ t.sp = s.sp - 2 ∧ s.CoreSame t := by
  have hsp : s.sp - 1 - 1 = s.sp - 2 := by bv_omega
  rw [← hsp] at h ⊢
  obtain ⟨t, hpush, htsp, hstores, heq⟩ := push16_of_ok h
  have hcore : s.CoreSame t := by
    rw [heq]
    exact ⟨fun r _ => by cases r <;> rfl, rfl, rfl, rfl, rfl, by constructor <;> rfl⟩
  exact ⟨t, hpush, .of_stores hstores hcore.control.params, htsp, hcore⟩

/-! ### The value on the stack -/

@[simp] theorem State.loByte_popValue (s : State) : loByte s.popValue = s.read8 s.sp := loByte_append _ _

@[simp] theorem State.hiByte_popValue (s : State) : hiByte s.popValue = s.read8 (s.sp + 1) := hiByte_append _ _

/-- The mask of R22 on numbers. -/
theorem toNat_clearLowNibble (v : Byte) : (v &&& (0xF0 : Byte)).toNat = v.toNat / 16 * 16 := by
  revert v
  decide

/-! ### SP plus a signed byte (R183, R233) -/

theorem toNat_spPlus (sp : Addr) (e : Byte) : ((spPlus sp e).toNat : Int) = ((sp.toNat : Int) + e.toInt) % 65536 := by
  have hext : (sext16 e).toInt = e.toInt := BitVec.toInt_signExtend_of_le (by decide)
  rw [spPlus, BitVec.toNat_add, ← hext, BitVec.toInt_eq_toNat_cond]
  split <;> omega

end Sys2Proof.Machine

/-! ## The 16-bit loads and the stack (O16 to O20) -/

namespace Sys2Proof.Machine

theorem loadPair_spec (rr : Reg16) (n : Addr) (s : State) :
    ∃ t, loadPair rr n s = .next t ∧ t.reg16 rr = n ∧ (∀ q, q ≠ rr → t.reg16 q = s.reg16 q) ∧ t.a = s.a ∧ t.f = s.f ∧
      s.Advances t 3 12 ∧ s.Quiet t := by
  obtain ⟨u, rfl, hpair, hothers, hregs, hf, hadvances, hquiet⟩ := s.fetched_setReg16_spec rr n 3
  have ha := hregs .a (by cases rr <;> decide)
  exact ⟨_, rfl, hpair, hothers, ha, hf, hadvances.tick, hquiet.trans (State.quiet_tick _ 12)⟩

theorem loadSpHl_spec (s : State) :
    ∃ t, loadSpHl s = .next t ∧ t.sp = s.hl ∧ s.RegsSameBut t [] ∧ t.f = s.f ∧ s.Advances t 1 8 ∧ s.Quiet t := by
  obtain ⟨u, rfl, hsp, -, hregs, hf, hadvances, hquiet⟩ := s.fetched_setReg16_spec .sp s.hl 1
  exact ⟨_, rfl, hsp, hregs, hf, hadvances.tick, hquiet.trans (State.quiet_tick _ 8)⟩

/-- Settles O16: both are the fetch, a write of one pair and the cost. -/
theorem pairLoadsWriteOnePair : Obligations.PairLoadsWriteOnePair := by
  intro s
  refine ⟨fun rr n => ?_, loadSpHl_spec s⟩
  rw [exec_ldRrN16]
  exact loadPair_spec rr n s

/-- Settles O17: the two-byte write between the fetch and the cost. -/
theorem stackPointerStoreWritesLowByteFirst : Obligations.StackPointerStoreWritesLowByteFirst := by
  intro n s h
  obtain ⟨u, hu, hstored, hsp, hcore⟩ := State.write16_spec (s := s.fetched 3) h
  obtain ⟨htwo, hregs, hf, hadvances, hcontrol⟩ := hstored.fetched_tick hcore 20
  exact ⟨_, Result.thenTick_eq_next.mpr ⟨u, hu, rfl⟩, htwo, hregs, hf, hsp, hadvances, hcontrol⟩

/-- What both sums of SP and a byte do: the sum goes to HL or to SP, then the flags are set. -/
theorem State.spPlus_spec (s : State) (r : Reg16) (e : Byte) (cost : Nat) :
    ∃ t, (.next ((((s.fetched 2).setReg16 r (spPlus s.sp e)).setFlags false false (spPlusH s.sp e) (spPlusC s.sp e)).tick
          cost) : Result) = .next t ∧
      t.reg16 r = spPlus s.sp e ∧ (∀ q, q ≠ r → t.reg16 q = s.reg16 q) ∧ s.RegsSameBut t r.parts ∧
      t.HasFlags false false (decide (15 < s.sp.toNat % 16 + e.toNat % 16)) (decide (255 < s.sp.toNat % 256 + e.toNat)) ∧
      s.Advances t 2 cost ∧ s.Quiet t := by
  obtain ⟨u, rfl, hpair, hothers, hregs, -, hadvances, hquiet⟩ := s.fetched_setReg16_spec r (spPlus s.sp e) 2
  have hflagged : s.Advances (((s.fetched 2).setReg16 r (spPlus s.sp e)).setFlags false false (spPlusH s.sp e) (spPlusC s.sp e)) 2 0 :=
    ⟨hadvances.pc, hadvances.haltBug, hadvances.cycles⟩
  exact ⟨_, rfl, hpair, hothers, hregs, hasFlags_of_f rfl, hflagged.tick,
    (hquiet.trans (quiet_setFlags _ _ _ _ _)).trans (quiet_tick _ cost)⟩

/-- Settles O18: the two forms differ in the pair that takes the sum, and in the cost. -/
theorem spPlusOffsetSums : Obligations.SpPlusOffsetSums := by
  intro e s
  constructor
  · obtain ⟨t, ht, hsum, hothers, hregs, hflags, hadvances, hquiet⟩ := s.spPlus_spec .hl e 12
    exact ⟨t, ht, by rw [← toNat_spPlus, ← hsum]; rfl, hregs, hothers .sp (by decide), hflags, hadvances, hquiet⟩
  · obtain ⟨t, ht, hsum, -, hregs, hflags, hadvances, hquiet⟩ := s.spPlus_spec .sp e 16
    exact ⟨t, ht, by rw [← toNat_spPlus, ← hsum]; rfl, hregs, hflags, hadvances, hquiet⟩

/-- Settles O19: the push between the fetch and the cost. -/
theorem pushStoresHighByteThenLowByte : Obligations.PushStoresHighByteThenLowByte := by
  intro rr s h
  rw [exec_push]
  obtain ⟨u, hu, hstored, hsp, hcore⟩ := State.push16_spec (s := s.fetched 1) h
  obtain ⟨htwo, hregs, hf, hadvances, hcontrol⟩ := hstored.fetched_tick hcore 16
  exact ⟨_, Result.thenTick_eq_next.mpr ⟨u, hu, rfl⟩, htwo, hsp, hregs, hf, hadvances, hcontrol⟩

/-- Settles O20: the halves of the popped value go to the parts of the pair; F takes its half without the low nibble. -/
theorem popReadsLowByteThenHighByte : Obligations.PopReadsLowByteThenHighByte := by
  intro rr s
  rw [exec_pop]
  have hregs := (s.fetched 1).popped.regsSameBut_setStackReg rr s.popValue
  have hquiet := ((s.quiet_fetched 1).trans (State.quiet_popped _)).trans (State.quiet_setStackReg _ rr s.popValue)
  refine ⟨_, rfl, ?_, by simp, by constructor <;> simp [State.pcAfter], hquiet.trans (State.quiet_tick _ 12)⟩
  cases rr with
  | bc | de | hl => exact ⟨s.hiByte_popValue, s.loByte_popValue, hregs, rfl⟩
  | af => exact ⟨s.hiByte_popValue, s.loByte_popValue ▸ toNat_clearLowNibble _, hregs⟩

end Sys2Proof.Machine

/-! ## What an 8-bit operation leaves unchanged

An instruction of this family writes one byte, to a register or to memory, and the four flags that go with it. -/

namespace Sys2Proof.Machine

/-- The fetch of an instruction of `len` bytes, its write of a register and its write of the flags. -/
theorem State.flaggedReg_spec (s : State) (dst : Reg8) (r : Flagged) (len : Addr) (cost : Nat) :
    ∃ t, (.next ((((s.fetched len).setReg8 dst r.value).withFlags r).tick cost) : Result) = .next t ∧ t.reg8 dst = r.value ∧
      t.HasFlags r.z r.n r.h r.c ∧ s.RegsSameBut t [dst] ∧ t.sp = s.sp ∧ s.Advances t len cost ∧ s.Quiet t := by
  obtain ⟨u, rfl, hdst, hregs, -, hsp, hadvances, hquiet⟩ := s.fetched_setReg8_spec dst r.value len
  have hflagged : s.Advances (((s.fetched len).setReg8 dst r.value).withFlags r) len 0 :=
    ⟨hadvances.pc, hadvances.haltBug, hadvances.cycles⟩
  exact ⟨_, rfl, hdst, hasFlags_of_f rfl, hregs, hsp, hflagged.tick,
    (hquiet.trans (quiet_setFlags _ _ _ _ _)).trans (quiet_tick _ cost)⟩

/-- A register and the flags can be written in either order. -/
theorem State.withFlags_setReg8 (s : State) (dst : Reg8) (r : Flagged) (v : Byte) :
    (s.withFlags r).setReg8 dst v = (s.setReg8 dst v).withFlags r := by
  cases dst <;> rfl

/-- The fetch of an instruction of `len` bytes, its write of the flags and its write to memory, where that does not fault. -/
theorem State.flaggedStore_spec {s : State} {addr : Addr} (r : Flagged) (h : s.writeFaults addr r.value = false) (len : Addr)
    (cost : Nat) :
    ∃ t, (((s.fetched len).withFlags r).write8 addr r.value).thenTick cost = .next t ∧ s.StoredByte addr r.value t ∧
      t.HasFlags r.z r.n r.h r.c ∧ s.RegsSameBut t [] ∧ t.sp = s.sp ∧ s.Advances t len cost ∧ s.ControlSame t := by
  have hbefore := (s.quiet_fetched len).trans (quiet_setFlags _ r.z r.n r.h r.c)
  have hcore := store8_coreSame ((s.fetched len).withFlags r) addr r.value
  have hadvances : s.Advances (((s.fetched len).withFlags r).store8 addr r.value) len 0 :=
    ⟨hcore.pc, hcore.haltBug, hcore.cycles⟩
  have hafter := quiet_tick (((s.fetched len).withFlags r).store8 addr r.value) cost
  exact ⟨_, write8_thenTick_of_ok cost h, (hbefore.storedByte addr r.value).quiet hafter, hasFlags_of_f hcore.f, hcore.regs,
    store8_sp _ addr r.value, hadvances.tick, (hbefore.control.trans hcore.control).trans hafter.control⟩

end Sys2Proof.Machine

/-! ## The results and flags of the 8-bit operations as numbers -/

namespace Sys2Proof.Machine

/-- The result `r` is the number `a` with these flags. -/
structure Flagged.Is (r : Flagged) (a : Nat) (z n h c : Bool) : Prop where
  value : r.value.toNat = a
  z : r.z = z
  n : r.n = n
  h : r.h = h
  c : r.c = c

theorem decide_eq_zero_of_toNat {t : Byte} {d : Nat} (h : t.toNat = d) : decide (t = 0) = decide (d = 0) := by
  simp [← h, BitVec.toNat_eq]

/-- A sum whose carry-in takes part in both carries (R201, R202). -/
theorem addFlags_is (a v : Byte) (c : Bool) :
    (addFlags a v c).Is ((a.toNat + v.toNat + c.toNat) % 256) (decide ((a.toNat + v.toNat + c.toNat) % 256 = 0)) false
      (decide (15 < a.toNat % 16 + v.toNat % 16 + c.toNat)) (decide (255 < a.toNat + v.toNat + c.toNat)) :=
  ⟨BitVec.toNat_ofNat _ 8, rfl, rfl, rfl, rfl⟩

theorem toNat_sub_sub (a v : Byte) (c : Bool) :
    (a - v - BitVec.ofNat 8 c.toNat).toNat = (a.toNat + 512 - v.toNat - c.toNat) % 256 := by
  have hc := c.toNat_le
  bv_omega

/-- A difference whose carry-in takes part in both borrows (R203, R204). -/
theorem subFlags_is (a v : Byte) (c : Bool) :
    (subFlags a v c).Is ((a.toNat + 512 - v.toNat - c.toNat) % 256)
      (decide ((a.toNat + 512 - v.toNat - c.toNat) % 256 = 0)) true (decide (a.toNat % 16 < v.toNat % 16 + c.toNat))
      (decide (a.toNat < v.toNat + c.toNat)) :=
  have hvalue := toNat_sub_sub a v c
  ⟨hvalue, decide_eq_zero_of_toNat hvalue, rfl, rfl, rfl⟩

/-- Without a carry-in (R203). -/
theorem subFlags_false_is (a v : Byte) :
    (subFlags a v false).Is ((a.toNat + 256 - v.toNat) % 256) (decide ((a.toNat + 256 - v.toNat) % 256 = 0)) true
      (decide (a.toNat % 16 < v.toNat % 16)) (decide (a.toNat < v.toNat)) := by
  have hdiff : (a.toNat + 256 - v.toNat) % 256 = (a.toNat + 512 - v.toNat - 0) % 256 := by bv_omega
  rw [hdiff]
  exact subFlags_is a v false

/-- A comparison keeps A, and finds no difference between equal bytes only (R208). -/
theorem cpFlags_is (a v : Byte) (c : Bool) :
    (aluFlags .cp a v c).Is a.toNat (decide (a.toNat = v.toNat)) true
      (decide (a.toNat % 16 < v.toNat % 16)) (decide (a.toNat < v.toNat)) := by
  obtain ⟨-, hz, hn, hh, hc⟩ := subFlags_false_is a v
  have hequal : (a.toNat + 256 - v.toNat) % 256 = 0 ↔ a.toNat = v.toNat := by bv_omega
  exact ⟨rfl, hz.trans (decide_eq_decide.mpr hequal), hn, hh, hc⟩

theorem logicFlags_is {t : Byte} {d : Nat} (h : Bool) (ht : t.toNat = d) :
    (logicFlags t h).Is d (decide (d = 0)) false h false :=
  ⟨ht, decide_eq_zero_of_toNat ht, rfl, rfl, rfl⟩

theorem incFlags_is (v : Byte) (c : Bool) :
    (incFlags v c).Is ((v.toNat + 1) % 256) (decide (v.toNat = 255)) false (decide (v.toNat % 16 = 15)) c :=
  ⟨BitVec.toNat_add v 1, decide_eq_decide.mpr (by bv_omega), rfl, rfl, rfl⟩

theorem decFlags_is (v : Byte) (c : Bool) :
    (decFlags v c).Is ((v.toNat + 255) % 256) (decide (v.toNat = 1)) true (decide (v.toNat % 16 = 0)) c where
  value := by
    change (v - 1).toNat = _
    bv_omega
  z := decide_eq_decide.mpr (by bv_omega)
  n := rfl
  h := rfl
  c := rfl

/-! ### The decimal adjustment (R213) -/

theorem toNat_daaSubAdjust (h c : Bool) : (daaSubAdjust h c).toNat = (if h then 6 else 0) + (if c then 96 else 0) := by
  cases h <;> cases c <;> rfl

/-- The two halves of the adjustment share no bit, so their union is their sum. -/
theorem toNat_daaAddAdjust (a : Byte) (h c : Bool) :
    (daaAddAdjust a h c).toNat =
      (if h = true ∨ 9 < a.toNat % 16 then 6 else 0) + (if c = true ∨ 0x99 < a.toNat then 96 else 0) := by
  unfold daaAddAdjust nibble
  split <;> split <;> rfl

theorem toNat_daaFlags_value (a : Byte) (n h c : Bool) : (daaFlags a n h c).value.toNat = daaNumber a.toNat n h c := by
  cases n with
  | false =>
    change (a + daaAddAdjust a h c).toNat = _
    rw [BitVec.toNat_add, toNat_daaAddAdjust]
    rfl
  | true =>
    change (a - daaSubAdjust h c).toNat = (a.toNat + 256 - ((if h then 6 else 0) + (if c then 96 else 0))) % 256
    rw [← toNat_daaSubAdjust]
    bv_omega

theorem daaFlags_is (a : Byte) (n h c : Bool) :
    (daaFlags a n h c).Is (daaNumber a.toNat n h c) (decide (daaNumber a.toNat n h c = 0)) n false (daaCarry a.toNat n c) where
  value := toNat_daaFlags_value a n h c
  z := decide_eq_zero_of_toNat (toNat_daaFlags_value a n h c)
  n := rfl
  h := rfl
  c := by cases n <;> simp [daaFlags, daaCarry]

end Sys2Proof.Machine

/-! ## The operations on A (O21, O22, O23, O26, O27) -/

namespace Sys2Proof.Machine

/-- An instruction that leaves the result `r` in A and in the flags accumulates what `r` is. -/
theorem accumulates_of_flagged {i : Instr} {s : State} {len : Addr} {cost a : Nat} {z n h c : Bool} (r : Flagged)
    (hexec : exec i s = .next ((((s.fetched len).setReg8 .a r.value).withFlags r).tick cost)) (hr : r.Is a z n h c) :
    Accumulates i s len cost a z n h c := by
  obtain ⟨hvalue, rfl, rfl, rfl, rfl⟩ := hr
  obtain ⟨t, ht, ha, hflags, hregs, hsp, hadvances, hquiet⟩ := s.flaggedReg_spec .a r len cost
  exact ⟨t, hexec.trans ht, (congrArg BitVec.toNat ha).trans hvalue, hflags, hregs, hsp, hadvances, hquiet⟩

/-- The three source forms differ in where the byte comes from only (R200). -/
theorem accumulatesFrom_of_is {op : AluOp} {s : State} {a : Nat → Nat} {z n h c : Nat → Bool}
    (hop : ∀ v : Byte, (aluFlags op s.a v s.flagC).Is (a v.toNat) (z v.toNat) (n v.toNat) (h v.toNat) (c v.toNat)) :
    AccumulatesFrom op s a z n h c :=
  ⟨fun r => accumulates_of_flagged _ (exec_alu op (.reg r) s) (hop (s.reg8 r)),
    accumulates_of_flagged _ (exec_alu op .atHl s) (hop (s.read8 s.hl)),
    fun w => accumulates_of_flagged _ (exec_aluN8 op w s) (hop w)⟩

/-- Settles O21: ADD is the sum of `addFlags_is` without a carry-in. -/
theorem additionsSetAccumulatorAndFlags : Obligations.AdditionsSetAccumulatorAndFlags := by
  intro s
  constructor
  · exact accumulatesFrom_of_is fun v => addFlags_is s.a v false
  · exact accumulatesFrom_of_is fun v => addFlags_is s.a v s.flagC

/-- Settles O22: the three operations are one difference, and CP keeps A. -/
theorem subtractionsSetAccumulatorAndFlags : Obligations.SubtractionsSetAccumulatorAndFlags := by
  intro s
  refine ⟨?_, ?_, ?_⟩
  · exact accumulatesFrom_of_is fun v => subFlags_false_is s.a v
  · exact accumulatesFrom_of_is fun v => subFlags_is s.a v s.flagC
  · exact accumulatesFrom_of_is fun v => cpFlags_is s.a v s.flagC

/-- Settles O23: XOR gives zero on equal bytes only, and OR on two zeros only. -/
theorem logicSetsAccumulatorAndFlags : Obligations.LogicSetsAccumulatorAndFlags := by
  intro s
  refine ⟨accumulatesFrom_of_is fun v => ?_, accumulatesFrom_of_is fun v => ?_, accumulatesFrom_of_is fun v => ?_⟩
  · exact logicFlags_is true (BitVec.toNat_and s.a v)
  · have hzero : s.a.toNat ^^^ v.toNat = 0 ↔ s.a.toNat = v.toNat := Nat.xor_eq_zero_iff
    rw [← decide_eq_decide.mpr hzero]
    exact logicFlags_is false (BitVec.toNat_xor s.a v)
  · have hzero : s.a.toNat ||| v.toNat = 0 ↔ s.a.toNat = 0 ∧ v.toNat = 0 := Nat.or_eq_zero_iff
    rw [← decide_eq_decide.mpr hzero]
    exact logicFlags_is false (BitVec.toNat_or s.a v)

/-- Settles O26: the adjustment is computed on numbers in `daaFlags_is`. -/
theorem decimalAdjustFollowsTheRule : Obligations.DecimalAdjustFollowsTheRule := by
  intro s
  exact accumulates_of_flagged (daaFlags s.a s.flagN s.flagH s.flagC) rfl (daaFlags_is s.a s.flagN s.flagH s.flagC)

theorem toNat_xor_0xFF (a : Byte) : (a ^^^ 0xFF).toNat = 255 - a.toNat := by
  have hnot : a ^^^ 0xFF = ~~~a := BitVec.xor_allOnes
  rw [hnot, BitVec.toNat_not]

/-- Settles O27: SCF and CCF leave in A the byte that was there. -/
theorem complementsAndCarryInstructions : Obligations.ComplementsAndCarryInstructions := by
  intro s
  refine ⟨?_, ?_, ?_⟩
  · exact accumulates_of_flagged ⟨s.a ^^^ 0xFF, s.flagZ, true, true, s.flagC⟩ rfl ⟨toNat_xor_0xFF s.a, rfl, rfl, rfl, rfl⟩
  · exact accumulates_of_flagged ⟨s.a, s.flagZ, false, false, true⟩ rfl ⟨rfl, rfl, rfl, rfl, rfl⟩
  · exact accumulates_of_flagged ⟨s.a, s.flagZ, false, false, !s.flagC⟩ rfl ⟨rfl, rfl, rfl, rfl, rfl⟩

end Sys2Proof.Machine

/-! ## Increment and decrement (O24, O25) -/

namespace Sys2Proof.Machine

/-- What an instruction of one byte does that leaves the result `r` in a register. -/
theorem State.writeReg_spec (s : State) (dst : Reg8) {r : Flagged} {a : Nat} {z n h c : Bool} (hr : r.Is a z n h c) :
    ∃ t, (((s.fetched 1).withFlags r).writeOperand (.reg dst) r.value).thenTick 4 = .next t ∧ (t.reg8 dst).toNat = a ∧
      s.RegsSameBut t [dst] ∧ t.HasFlags z n h c ∧ t.sp = s.sp ∧ s.Advances t 1 4 ∧ s.Quiet t := by
  obtain ⟨hvalue, rfl, rfl, rfl, rfl⟩ := hr
  obtain ⟨t, ht, hdst, hflags, hregs, hsp, hadvances, hquiet⟩ := s.flaggedReg_spec dst r 1 4
  rw [← withFlags_setReg8] at ht
  exact ⟨t, ht, (congrArg BitVec.toNat hdst).trans hvalue, hregs, hflags, hsp, hadvances, hquiet⟩

/-- Settles O24: both write a register with its flags. -/
theorem incrementAndDecrementKeepCarry : Obligations.IncrementAndDecrementKeepCarry := by
  intro r s
  constructor
  · rw [exec_inc]
    exact s.writeReg_spec r (incFlags_is (s.reg8 r) s.flagC)
  · rw [exec_dec]
    exact s.writeReg_spec r (decFlags_is (s.reg8 r) s.flagC)

/-- The same for an instruction that leaves the result `r` in the byte at HL, where the write does not fault. -/
theorem State.writeAtHl_spec {s : State} {r : Flagged} {a : Nat} {z n h c : Bool} (hr : r.Is a z n h c)
    (hok : s.writeFaults s.hl r.value = false) :
    ∃ t, (((s.fetched 1).withFlags r).writeOperand .atHl r.value).thenTick 12 = .next t ∧ s.StoredByte s.hl r.value t ∧
      t.HasFlags z n h c ∧ s.RegsSameBut t [] ∧ t.sp = s.sp ∧ s.Advances t 1 12 ∧ s.ControlSame t := by
  obtain ⟨-, rfl, rfl, rfl, rfl⟩ := hr
  exact flaggedStore_spec r hok 1 12

/-- Settles O25: both store a byte at HL with its flags. -/
theorem incrementAndDecrementOfMemory : Obligations.IncrementAndDecrementOfMemory := by
  intro s
  refine ⟨fun hok => ?_, fun hok => ?_⟩
  · rw [exec_inc]
    exact State.writeAtHl_spec (incFlags_is (s.read8 s.hl) s.flagC) hok
  · rw [exec_dec]
    exact State.writeAtHl_spec (decFlags_is (s.read8 s.hl) s.flagC) hok

end Sys2Proof.Machine

/-! ## 16-bit arithmetic (O28, O29) -/

namespace Sys2Proof.Machine

theorem State.Advances.setFlags {s t : State} {n : Addr} {cost : Nat} (hadv : s.Advances t n cost) (z m h c : Bool) :
    s.Advances (t.setFlags z m h c) n cost where
  pc := hadv.pc
  haltBug := hadv.haltBug
  cycles := hadv.cycles

/-- Settles O28: the sum goes to HL, then the flags are set; Z is written back as it was. -/
theorem addToHlKeepsZ : Obligations.AddToHlKeepsZ := by
  intro rr s
  rw [exec_addHlRr]
  obtain ⟨u, hu, hsum, hothers, hregs, -, hadvances, hquiet⟩ := s.fetched_setReg16_spec .hl (s.hl + s.reg16 rr) 1
  have ht : addHl rr s = .next ((u.setFlags s.flagZ false (add16H s.hl (s.reg16 rr)) (add16C s.hl (s.reg16 rr))).tick 8) :=
    hu ▸ rfl
  have hvalue : (u.h ++ u.l).toNat = ((s.h ++ s.l).toNat + (s.reg16 rr).toNat) % 65536 :=
    (congrArg BitVec.toNat hsum).trans (BitVec.toNat_add _ _)
  exact ⟨_, ht, hvalue, hregs, hothers .sp (by decide), State.hasFlags_of_f rfl, (hadvances.setFlags _ _ _ _).tick,
    (hquiet.trans (State.quiet_setFlags _ _ _ _ _)).trans (State.quiet_tick _ 8)⟩

/-- The fetch of an instruction of one byte, its write of a pair and its cost: A and F are in no pair. -/
theorem State.writePair_spec (s : State) (rr : Reg16) (v : Addr) :
    ∃ t, (.next (((s.fetched 1).setReg16 rr v).tick 8) : Result) = .next t ∧ t.reg16 rr = v ∧
      (∀ q, q ≠ rr → t.reg16 q = s.reg16 q) ∧ t.a = s.a ∧ t.f = s.f ∧ s.Advances t 1 8 ∧ s.Quiet t := by
  obtain ⟨u, rfl, hpair, hothers, hregs, hf, hadvances, hquiet⟩ := s.fetched_setReg16_spec rr v 1
  have ha := hregs .a (by cases rr <;> decide)
  exact ⟨_, rfl, hpair, hothers, ha, hf, hadvances.tick, hquiet.trans (quiet_tick _ 8)⟩

/-- Settles O29: both write one pair; to subtract 1 is to add 65535 modulo 65536. -/
theorem pairIncrementAndDecrementSetNoFlag : Obligations.PairIncrementAndDecrementSetNoFlag := by
  intro rr s
  constructor
  · rw [exec_incRr]
    obtain ⟨t, ht, hpair, hrest⟩ := s.writePair_spec rr (s.reg16 rr + 1)
    exact ⟨t, ht, (congrArg BitVec.toNat hpair).trans (BitVec.toNat_add _ _), hrest⟩
  · rw [exec_decRr]
    obtain ⟨t, ht, hpair, hrest⟩ := s.writePair_spec rr (s.reg16 rr - 1)
    have hvalue : (s.reg16 rr - 1).toNat = ((s.reg16 rr).toNat + 65535) % 65536 := by bv_omega
    exact ⟨t, ht, (congrArg BitVec.toNat hpair).trans hvalue, hrest⟩

end Sys2Proof.Machine

/-! ## The results and flags of the rotates and shifts as numbers (R245 to R252) -/

namespace Sys2Proof.Machine

theorem getLsbD_eq_decide (v : Byte) (k : Nat) : v.getLsbD k = decide (v.toNat / 2 ^ k % 2 = 1) :=
  Nat.testBit_eq_decide_div_mod_eq

/-- SRA shifts in the old bit 7 (R250): a copy of it stands above the seven upper bits. -/
theorem sra_eq_append (v : Byte) : (v >>> 1) ||| (v &&& 0x80) = v.extractLsb' 7 1 ++ v.extractLsb' 1 7 := by
  revert v
  decide

/-- Where bits are put together, the number is the upper part times a power of two plus the lower part. -/
theorem toNat_rotValue (o : RotOp) (v : Byte) (c : Bool) : (rotValue o v c).1.toNat = rotateNumber o v.toNat c.toNat := by
  have hc := c.toNat_le
  have htop : v.toNat / 128 = 0 ∨ v.toNat / 128 = 1 := by omega
  cases o with
  | rlc | rrc | rl | rr | swap =>
    simp only [rotValue, rotateNumber, toNat_append_eq_add, BitVec.extractLsb'_toNat, BitVec.toNat_ofBool, Nat.shiftRight_eq_div_pow,
      Nat.reducePow, Nat.div_one]
    omega
  | sra =>
    simp only [rotValue, rotateNumber, sra_eq_append, toNat_append_eq_add, BitVec.extractLsb'_toNat, Nat.shiftRight_eq_div_pow]
    omega
  | sla =>
    simp only [rotValue, rotateNumber, BitVec.toNat_shiftLeft, Nat.shiftLeft_eq]
    omega
  | srl => exact Nat.shiftRight_eq_div_pow v.toNat 1

/-- The carry is bit 7 or bit 0 of the old value, and SWAP has none. -/
theorem rotValue_carry (o : RotOp) (v : Byte) (c : Bool) : (rotValue o v c).2 = rotateCarry o v.toNat := by
  have hv := v.isLt
  have hbit0 : v.getLsbD 0 = decide (v.toNat % 2 = 1) := by simpa using getLsbD_eq_decide v 0
  have hbit7 : v.getLsbD 7 = decide (v.toNat / 128 = 1) :=
    (getLsbD_eq_decide v 7).trans (decide_eq_decide.mpr (by omega))
  cases o with
  | rlc | rl | sla => exact hbit7
  | rrc | rr | sra | srl => exact hbit0
  | swap => rfl

theorem rotFlags_is (o : RotOp) (v : Byte) (c : Bool) :
    (rotFlags o v c).Is (rotateNumber o v.toNat c.toNat) (decide (rotateNumber o v.toNat c.toNat = 0)) false false
      (rotateCarry o v.toNat) where
  value := toNat_rotValue o v c
  z := decide_eq_zero_of_toNat (toNat_rotValue o v c)
  n := rfl
  h := rfl
  c := rotValue_carry o v c

end Sys2Proof.Machine

/-! ## The rotates and shifts (O30, O31, O32) -/

namespace Sys2Proof.Machine

/-- A rotate of A leaves the value and the carry of the prefixed rotate, and Z cleared. -/
theorem accumulates_of_rotateA {i : Instr} {s : State} (o : RotOp) (hexec : exec i s = rotateA o s) :
    Accumulates i s 1 4 (rotateNumber o s.a.toNat s.flagC.toNat) false false false (rotateCarry o s.a.toNat) :=
  accumulates_of_flagged ⟨(rotValue o s.a s.flagC).1, false, false, false, (rotValue o s.a s.flagC).2⟩ hexec
    ⟨toNat_rotValue o s.a s.flagC, rfl, rfl, rfl, rotValue_carry o s.a s.flagC⟩

/-- Settles O30: each of the four is a rotate of A. -/
theorem accumulatorRotatesClearZ : Obligations.AccumulatorRotatesClearZ := by
  intro s
  exact ⟨accumulates_of_rotateA .rlc rfl, accumulates_of_rotateA .rrc rfl, accumulates_of_rotateA .rl rfl,
    accumulates_of_rotateA .rr rfl⟩

/-- Settles O31: the result of `rotFlags_is` goes to the register and to the flags. -/
theorem rotatesAndShiftsOfRegisters : Obligations.RotatesAndShiftsOfRegisters := by
  intro o r s
  obtain ⟨hvalue, hz, hn, hh, hc⟩ := rotFlags_is o (s.reg8 r) s.flagC
  obtain ⟨t, ht, hreg, hflags, hregs, hsp, hadvances, hquiet⟩ := s.flaggedReg_spec r (rotFlags o (s.reg8 r) s.flagC) 2 8
  rw [← State.withFlags_setReg8] at ht
  rw [hz, hn, hh, hc] at hflags
  exact ⟨t, (exec_rot o (.reg r) s).trans ht, (congrArg BitVec.toNat hreg).trans hvalue, hregs, hflags, hsp, hadvances, hquiet⟩

/-- Settles O32: the number determines the byte that is stored. -/
theorem rotatesAndShiftsOfMemory : Obligations.RotatesAndShiftsOfMemory := by
  intro o s w hw hok
  obtain ⟨hvalue, -, -, -, hc⟩ := rotFlags_is o (s.read8 s.hl) s.flagC
  obtain rfl : w = (rotFlags o (s.read8 s.hl) s.flagC).value := BitVec.eq_of_toNat_eq (hw.trans hvalue.symm)
  rw [exec_rot, ← hc]
  exact State.flaggedStore_spec (rotFlags o (s.read8 s.hl) s.flagC) hok 2 16

end Sys2Proof.Machine

/-! ## The bit operations (O33, O34, O35) -/

namespace Sys2Proof.Machine

/-- What BIT does with either operand: only its cost depends on where the operand is (R253). -/
theorem testBit_spec (b : Fin 8) (o : Operand) (s : State) :
    ∃ t, testBit b o s = .next t ∧ t.HasFlags (decide ((s.readOperand o).toNat / 2 ^ b.val % 2 = 0)) false true s.flagC ∧
      s.RegsSameBut t [] ∧ t.sp = s.sp ∧ s.Advances t 2 (operandCost o 8 12) ∧ s.Quiet t := by
  have hz : (!(s.readOperand o).getLsbD b.val) = decide ((s.readOperand o).toNat / 2 ^ b.val % 2 = 0) := by
    rw [getLsbD_eq_decide, ← decide_not, decide_eq_decide]
    exact Nat.mod_two_ne_one
  have hadvances : s.Advances (s.fetched 2) 2 0 := ⟨rfl, rfl, rfl⟩
  rw [← hz]
  exact ⟨_, rfl, State.hasFlags_of_f rfl, fun _ _ => rfl, rfl, (hadvances.setFlags _ _ _ _).tick,
    ((s.quiet_fetched 2).trans (State.quiet_setFlags _ _ _ _ _)).trans (State.quiet_tick _ _)⟩

/-- Settles O33: both forms are `testBit_spec`. -/
theorem bitTestSetsZFromTheBit : Obligations.BitTestSetsZFromTheBit := by
  intro b s
  refine ⟨fun r => ?_, ?_⟩
  · rw [exec_bit]
    exact testBit_spec b (.reg r) s
  · rw [exec_bit]
    exact testBit_spec b .atHl s

theorem getLsbD_bitMask (k : Nat) (b : Fin 8) : (bitMask b).getLsbD k = decide (k = b.val) := by
  rw [bitMask, ← BitVec.twoPow_eq, BitVec.getLsbD_twoPow]
  simp [eq_comm]

theorem getLsbD_and_not_bitMask {k : Nat} (hk : k < 8) (v : Byte) (b : Fin 8) :
    (v &&& ~~~(bitMask b)).getLsbD k = (v.getLsbD k && decide (k ≠ b.val)) := by
  rw [BitVec.getLsbD_and, BitVec.getLsbD_not, getLsbD_bitMask, decide_not, decide_eq_true hk, Bool.true_and]

theorem getLsbD_or_bitMask (k : Nat) (v : Byte) (b : Fin 8) :
    (v ||| bitMask b).getLsbD k = (v.getLsbD k || decide (k = b.val)) := by
  rw [BitVec.getLsbD_or, getLsbD_bitMask]

/-- Settles O34: each is a load of the register with the byte whose bit is cleared or set. -/
theorem resetAndSetOfRegisterBits : Obligations.ResetAndSetOfRegisterBits := by
  intro b r s
  constructor
  · rw [exec_res]
    obtain ⟨t, ht, hreg, hrest⟩ := s.load_spec r (s.reg8 r &&& ~~~(bitMask b)) 2 8
    exact ⟨t, ht, fun k hk => hreg ▸ getLsbD_and_not_bitMask hk (s.reg8 r) b, hrest⟩
  · rw [exec_set]
    obtain ⟨t, ht, hreg, hrest⟩ := s.load_spec r (s.reg8 r ||| bitMask b) 2 8
    exact ⟨t, ht, fun k _ => hreg ▸ getLsbD_or_bitMask k (s.reg8 r) b, hrest⟩

/-- Settles O35: the bits determine the byte, and each form is a store of it at HL. -/
theorem resetAndSetOfMemoryBits : Obligations.ResetAndSetOfMemoryBits := by
  intro b s w
  refine ⟨fun hbits hok => ?_, fun hbits hok => ?_⟩
  · obtain rfl : w = s.read8 s.hl &&& ~~~(bitMask b) :=
      BitVec.eq_of_getLsbD_eq fun k hk => (hbits k hk).trans (getLsbD_and_not_bitMask hk (s.read8 s.hl) b).symm
    rw [exec_res]
    exact State.store_spec hok 2 16
  · obtain rfl : w = s.read8 s.hl ||| bitMask b :=
      BitVec.eq_of_getLsbD_eq fun k hk => (hbits k hk).trans (getLsbD_or_bitMask k (s.read8 s.hl) b).symm
    rw [exec_set]
    exact State.store_spec hok 2 16

end Sys2Proof.Machine

/-! ## The jumps, calls and returns (O36, O37, O38)

Each is the fetch, a push or a pop or neither, a new PC, and the cost. A conditional form chooses between two such ends. -/

namespace Sys2Proof.Machine

theorem State.cond_iff (s : State) (k : Cond) : s.cond k = true ↔ s.CondHolds k := by
  cases k with
  | nz | nc => exact .of_eq (Bool.not_eq_true' _)
  | z | c => exact Iff.rfl

/-- A conditional instruction ends in one of two ways; the condition of R270 tells which. -/
theorem State.branch_spec {s : State} {k : Cond} {taken untaken : Result} {P Q : State → Prop}
    (htaken : ∃ t, taken = .next t ∧ P t) (huntaken : ∃ t, untaken = .next t ∧ Q t) :
    ∃ t, (if s.cond k then taken else untaken) = .next t ∧ (s.CondHolds k → P t) ∧ (¬s.CondHolds k → Q t) := by
  by_cases hk : s.CondHolds k
  · obtain ⟨t, ht, hP⟩ := htaken
    exact ⟨t, (if_pos ((s.cond_iff k).mpr hk)).trans ht, fun _ => hP, fun hnot => absurd hk hnot⟩
  · obtain ⟨t, ht, hQ⟩ := huntaken
    exact ⟨t, (if_neg (mt (s.cond_iff k).mp hk)).trans ht, fun h => absurd h hk, fun _ => hQ⟩

theorem State.quiet_pc (s : State) (target : Addr) : s.Quiet { s with pc := target } :=
  quiet_of (by constructor <;> rfl) (by constructor <;> rfl)

/-! ### Jumps -/

/-- The fetch of an instruction of `n` bytes and a jump. -/
theorem State.fetched_goTo_spec (s : State) (n target : Addr) (cost : Nat) :
    ∃ t, (s.fetched n).goTo target cost = .next t ∧ s.GoesTo t target cost :=
  ⟨_, rfl, rfl, rfl, rfl, fun _ _ => rfl, rfl, rfl, ((s.quiet_fetched n).trans (quiet_pc _ target)).trans (quiet_tick _ cost)⟩

/-- An instruction of `n` bytes that only takes its time goes past itself. -/
theorem State.fetched_tick_spec (s : State) (n : Addr) (cost : Nat) :
    ∃ t, (.next ((s.fetched n).tick cost) : Result) = .next t ∧ s.GoesTo t (s.pcAfter n) cost :=
  s.fetched_goTo_spec n (s.pcAfter n) cost

/-- Settles O36: each form is a jump after the fetch; an untaken one goes past itself. -/
theorem jumpsGoToTheirTarget : Obligations.JumpsGoToTheirTarget := by
  intro s
  refine ⟨fun n => s.fetched_goTo_spec 3 n 16, s.fetched_goTo_spec 1 s.hl 4,
    fun e => s.fetched_goTo_spec 2 (s.pcAfter 2 + sext16 e) 12, fun k n => ?_, fun k e => ?_⟩
  · rw [exec_jpCc]
    exact State.branch_spec (s.fetched_goTo_spec 3 n 16) (s.fetched_tick_spec 3 12)
  · rw [exec_jrCc]
    exact State.branch_spec (s.fetched_goTo_spec 2 (s.pcAfter 2 + sext16 e) 12) (s.fetched_tick_spec 2 8)

/-! ### Calls -/

/-- The fetch of an instruction of `n` bytes and a call, where neither write of the push faults. -/
theorem State.fetched_callTo_spec {s : State} {n : Addr}
    (h : s.TwoWritesOk (s.sp - 1) (hiByte (s.pcAfter n)) (s.sp - 2) (loByte (s.pcAfter n))) (target : Addr) (cost : Nat) :
    ∃ t, (s.fetched n).callTo target cost = .next t ∧ s.CallsTo t (s.pcAfter n) target cost := by
  obtain ⟨u, hu, hstored, hsp, hcore⟩ := push16_spec (s := s.fetched n) h
  obtain ⟨htwo, hregs, hf, hadvances, hcontrol⟩ := hstored.fetched_tick hcore cost
  have hquiet := (u.tick cost).quiet_pc target
  exact ⟨_, Result.andThen_eq_next.mpr ⟨u, hu, rfl⟩, rfl, hsp, htwo.quiet hquiet, hadvances.haltBug, hadvances.cycles, hregs, hf,
    hcontrol.trans hquiet.control⟩

/-- Settles O37: each form is a call after the fetch; an untaken one goes past itself. -/
theorem callsPushTheReturnAddress : Obligations.CallsPushTheReturnAddress := by
  intro s
  refine ⟨fun h n => State.fetched_callTo_spec h n 24, fun k n hk => ?_, fun h k n hk => ?_, fun h y => ?_⟩
  · rw [exec_callCc, callIf, if_neg (mt (s.cond_iff k).mp hk)]
    exact s.fetched_tick_spec 3 12
  · rw [exec_callCc, callIf, if_pos ((s.cond_iff k).mpr hk)]
    exact State.fetched_callTo_spec h n 24
  · rw [exec_rst]
    exact State.fetched_callTo_spec h (BitVec.ofNat 16 (8 * y.val)) 16

/-! ### Returns -/

/-- The state that a return from `s` leaves before its cost is added: PC is popped, and IME is given. -/
def State.returned (s : State) (ime : Bool) : State :=
  { (s.fetched 1).popped with pc := s.popValue, ime := ime }

theorem returnFromCall_eq (s : State) : returnFromCall s = .next ((s.returned s.ime).tick 16) := rfl

theorem returnAndEnable_eq (s : State) : returnAndEnable s = .next ((s.returned true).tick 16) := rfl

/-- A return changes, of the control state, IME at most. -/
theorem State.returned_spec (s : State) (ime : Bool) (cost : Nat) :
    s.ReturnsTo ((s.returned ime).tick cost) cost ∧ ({ s with ime := ime } : State).ControlSame ((s.returned ime).tick cost) := by
  have hstores : s.StoresSame ((s.returned ime).tick cost) := by constructor <;> rfl
  exact ⟨⟨rfl, rfl, rfl, rfl, fun _ _ => rfl, rfl, hstores, read8_congr hstores rfl⟩, by constructor <;> rfl⟩

/-- Settles O38: RET and RETI differ in the IME they leave; an untaken RET cc goes past itself. -/
theorem returnsPopTheirAddress : Obligations.ReturnsPopTheirAddress := by
  intro s
  refine ⟨⟨_, returnFromCall_eq s, s.returned_spec s.ime 16⟩, ⟨_, returnAndEnable_eq s, ?_⟩, fun k => ?_⟩
  · obtain ⟨hreturns, hcontrol⟩ := s.returned_spec true 16
    exact ⟨hreturns, rfl, hcontrol⟩
  · rw [exec_retCc]
    exact State.branch_spec ⟨(s.returned s.ime).tick 20, rfl, s.returned_spec s.ime 20⟩ (s.fetched_tick_spec 1 8)

end Sys2Proof.Machine

/-! ## The system instructions (O8, O9, O39, O40)

What each does is one update of the state the fetch leaves; what a step around it does is R305's: the promotion of a pending
enable before it and the interrupt check behind it. -/

namespace Sys2Proof.Machine

/-! ### Each instruction by itself -/

theorem exec_nop (s : State) : exec .nop s = .next ((s.fetched 1).tick 4) := rfl

theorem exec_stop (s : State) (x : Byte) : exec (.stop x) s =
    .next (({ s.fetched 2 with execState := .stop } : State).tick 4) := rfl

theorem exec_di (s : State) : exec .di s = .next (({ s.fetched 1 with ime := false, eiPending := false } : State).tick 4) := rfl

theorem exec_ei (s : State) : exec .ei s = .next (({ s.fetched 1 with eiPending := true } : State).tick 4) := rfl

/-- Settles O39: each meaning updates, of the state the fetch leaves, the named control field and the cycle counter. -/
theorem nopStopDiEiChangeOnlyControl : Obligations.NopStopDiEiChangeOnlyControl :=
  fun s => ⟨exec_nop s, exec_stop s, exec_di s, exec_ei s⟩

/-- Settles O9: the meaning of each of these rows is the fault of R295 with the row's own byte. -/
theorem unassignedBytesFault : Obligations.UnassignedBytesFault :=
  fun _ => ⟨rfl, rfl, rfl, rfl, rfl, rfl, rfl, rfl, rfl, rfl, rfl⟩

/-! ### HALT (R291) -/

theorem haltCpu_of_none_pending {s : State} (hnone : s.pend = 0) :
    haltCpu s = .next (({ s.fetched 1 with execState := .halt } : State).tick 4) := if_pos hnone

theorem haltCpu_of_ime {s : State} (hpending : s.pend ≠ 0) (hime : s.ime = true) :
    haltCpu s = .next ((s.fetched 1).tick 4) := by
  rw [haltCpu, if_neg hpending, if_pos hime]

theorem haltCpu_of_resume {s : State} (hpending : s.pend ≠ 0) (hresume : s.params.haltPendingIme0 = .resume) :
    haltCpu s = .next ((s.fetched 1).tick 4) := by
  rw [haltCpu, if_neg hpending, hresume]
  exact ite_self _

theorem haltCpu_of_fault {s : State} (hpending : s.pend ≠ 0) (hime : s.ime = false)
    (hfault : s.params.haltPendingIme0 = .fault) : haltCpu s = .fault (.haltBug s.pc) := by
  rw [haltCpu, if_neg hpending, if_neg (by simp [hime]), hfault]

theorem haltCpu_of_bug {s : State} (hpending : s.pend ≠ 0) (hime : s.ime = false)
    (hbug : s.params.haltPendingIme0 = .bug) :
    haltCpu s = .next (({ s.fetched 1 with haltBug := true } : State).tick 4) := by
  rw [haltCpu, if_neg hpending, if_neg (by simp [hime]), hbug]

/-- Settles O40: one clause for nothing pending, and the parameter's three values where something is. -/
theorem haltEntersHaltOnlyWithNothingPending : Obligations.HaltEntersHaltOnlyWithNothingPending :=
  fun _ => ⟨haltCpu_of_none_pending, fun hpending hpass => hpass.elim (haltCpu_of_ime hpending) (haltCpu_of_resume hpending),
    haltCpu_of_fault, haltCpu_of_bug⟩

/-! ### The step around an instruction (R305) -/

theorem State.promoteEi_of_clear {s : State} (h : s.eiPending = false) : s.promoteEi = s := if_neg (by simp [h])

theorem State.promoteEi_of_pending {s : State} (h : s.eiPending = true) :
    s.promoteEi = { s with ime := true, eiPending := false } := if_pos h

/-- The promotion touches IME and EI_PENDING only: where both are written after it, nothing of it is left. -/
theorem State.promoteEi_overwritten (s : State) (ime eiPending : Bool) :
    ({ s.promoteEi with ime := ime, eiPending := eiPending } : State) = { s with ime := ime, eiPending := eiPending } := by
  unfold State.promoteEi
  split <;> rfl

/-- Without a pending halt bug the fetch only moves PC past the instruction. -/
theorem State.fetched_of_no_haltBug {s : State} (h : s.haltBug = false) (n : Addr) : s.fetched n = { s with pc := s.pc + n } := by
  have hpc : s.pcAfter n = s.pc + n := if_neg (by simp [h])
  rw [State.fetched, hpc, ← h]

theorem State.interruptCheck_of_ime_clear {s : State} (h : s.ime = false) : s.interruptCheck = .next s := if_neg (by simp [h])

/-- A step in Normal state whose byte at PC alone tells the instruction: what the instruction leaves after the promotion, and,
while the CPU stays in Normal state, the interrupt check. -/
theorem State.cpuStep_of_fetch {s t : State} {op : Byte} {i : Instr} (hnormal : s.execState = .normal)
    (hfetch : s.read8 s.pc = op) (hdecode : ∀ b1 b2, decodeWindow op b1 b2 = i)
    (hexec : exec i s.promoteEi = .next t) (hstays : t.execState = .normal) :
    s.cpuStep = t.interruptCheck := by
  have hinstr : s.promoteEi.decodeAtPc = i := by
    rw [State.decodeAtPc, State.promoteEi_read8, State.promoteEi_pc, hfetch, hdecode]
  calc s.cpuStep = s.normalStep := by rw [State.cpuStep, hnormal]
    _ = t.boundaryCheck := by rw [State.normalStep, hinstr, hexec, Result.andThen_next]
    _ = t.interruptCheck := State.boundaryCheck_of_ne_stop (by simp [hstays])

/-- Settles O8: the check behind EI and DI sees IME clear; the one behind a NOP after EI sees the IME that the promotion set. -/
theorem enableIsDelayedAndDisableIsNot : Obligations.EnableIsDelayedAndDisableIsNot := by
  intro s hnormal hbug
  have hfetched : s.promoteEi.fetched 1 = { s.promoteEi with pc := s.pc + 1 } := by
    rw [State.fetched_of_no_haltBug (by rw [State.promoteEi_haltBug, hbug]), State.promoteEi_pc]
  have hstays : s.promoteEi.execState = .normal := by rw [State.promoteEi_execState, hnormal]
  refine ⟨fun hei hime hclear => ?_, fun hdi => ?_, fun hnop hpending => ?_⟩
  · rw [State.cpuStep_of_fetch hnormal hei (fun _ _ => rfl) (exec_ei _) hstays, hfetched, State.promoteEi_of_clear hclear]
    exact State.interruptCheck_of_ime_clear hime
  · rw [State.cpuStep_of_fetch hnormal hdi (fun _ _ => rfl) (exec_di _) hstays, hfetched, State.interruptCheck_of_ime_clear rfl]
    exact congrArg (fun u : State => Host.Outcome.next (({ u with pc := s.pc + 1 } : State).tick 4))
      (s.promoteEi_overwritten false false)
  · rw [State.cpuStep_of_fetch hnormal hnop (fun _ _ => rfl) (exec_nop _) hstays, hfetched, State.promoteEi_of_pending hpending]
    rfl

end Sys2Proof.Machine

/-! ## Interrupts and the idle states (O5, O6, O7) -/

namespace Sys2Proof.Machine

/-- A source is pending when it is enabled in IE and requested in IF (R304). -/
theorem State.getLsbD_pend_iff (s : State) (i : Fin 5) :
    s.pend.getLsbD i = true ↔ s.ie.getLsbD i = true ∧ s.iflags.getLsbD i = true := by
  simp [State.pend]

/-- The source selected is the lowest-numbered one that is pending (R304, R308). -/
theorem lowestSource_of_lowest : ∀ (pend : BitVec 5) (i : Fin 5), pend.getLsbD i = true →
    (∀ j : Fin 5, j < i → ¬pend.getLsbD j = true) → lowestSource pend = some i := by
  decide

theorem lowestSource_of_none : ∀ pend : BitVec 5, (∀ j : Fin 5, ¬pend.getLsbD j = true) → lowestSource pend = none := by
  decide

theorem State.interruptCheck_of_none_pending {s : State} (h : ∀ j : Fin 5, ¬(s.ie.getLsbD j = true ∧ s.iflags.getLsbD j = true)) :
    s.interruptCheck = .next s := by
  have hnone : lowestSource s.pend = none := lowestSource_of_none _ fun j => mt (s.getLsbD_pend_iff j).mp (h j)
  rw [State.interruptCheck, hnone]
  exact ite_self _

theorem State.lowestSource_pend {s : State} {i : Fin 5} (hie : s.ie.getLsbD i = true) (hif : s.iflags.getLsbD i = true)
    (hlowest : ∀ j : Fin 5, j < i → ¬(s.ie.getLsbD j = true ∧ s.iflags.getLsbD j = true)) : lowestSource s.pend = some i :=
  lowestSource_of_lowest _ i ((s.getLsbD_pend_iff i).mpr ⟨hie, hif⟩) fun j hj => mt (s.getLsbD_pend_iff j).mp (hlowest j hj)

theorem State.interruptCheck_of_lowest {s : State} {i : Fin 5} (hime : s.ime = true) (h : lowestSource s.pend = some i) :
    s.interruptCheck = s.takeInterrupt i := by
  rw [State.interruptCheck, if_pos hime, h]

/-- Settles O6: IME and the lowest-numbered pending source decide the check. -/
theorem checkTakesTheLowestPendingSource : Obligations.CheckTakesTheLowestPendingSource :=
  fun _ => ⟨State.interruptCheck_of_ime_clear, State.interruptCheck_of_none_pending, fun _ hime hie hif hlowest =>
    State.interruptCheck_of_lowest hime (State.lowestSource_pend hie hif hlowest)⟩

/-- The acknowledgement clears the bit of its own source (R306). -/
theorem getLsbD_acknowledged : ∀ (flags : BitVec 5) (i j : Fin 5),
    (flags &&& ~~~(sourceBit i)).getLsbD j = (flags.getLsbD j && decide (j ≠ i)) := by
  decide

theorem toNat_vectorOf : ∀ i : Fin 5, (vectorOf i).toNat = 0x40 + 8 * i.val := by
  decide

/-- The state in which a dispatch of `i` pushes PC (R306). -/
def State.acknowledged (s : State) (i : Fin 5) : State :=
  { s with iflags := s.iflags &&& ~~~(sourceBit i), ime := false, eiPending := false }

theorem State.takeInterrupt_eq (s : State) (i : Fin 5) :
    s.takeInterrupt i =
      ((s.acknowledged i).push16 s.pc).andThen fun t => .next (({ t with pc := vectorOf i } : State).tick 20) := rfl

/-- Settles O7: the push of the acknowledged state, then the jump to the vector and the cost. -/
theorem dispatchPushesPcAndJumpsToTheVector : Obligations.DispatchPushesPcAndJumpsToTheVector := by
  intro i s hok
  obtain ⟨u, hu, hstored, hsp, hcore⟩ := State.push16_spec (s := s.acknowledged i) hok
  obtain ⟨hregs, hf, -, hcycles, hhaltBug, hcontrol⟩ := hcore
  have hflags : ({ s with iflags := s.iflags &&& ~~~(sourceBit i) } : State).StoresSame (s.acknowledged i) := by
    constructor <;> rfl
  have hjump := (u.quiet_pc (vectorOf i)).trans (State.quiet_tick _ 20)
  exact ⟨({ u with pc := vectorOf i } : State).tick 20, by rw [State.takeInterrupt_eq, hu]; rfl, toNat_vectorOf i, hsp,
    hcontrol.ime, hcontrol.eiPending, congrArg (· + 20) hcycles, hcontrol.execState, hregs, hf, hhaltBug, hcontrol.apuNext,
    hcontrol.params, hcontrol.schedule, _, getLsbD_acknowledged s.iflags i, (hstored.after_update hflags rfl).quiet hjump⟩

theorem State.cpuStep_halt {s : State} (h : s.execState = .halt) : s.cpuStep = s.haltStep := by
  rw [State.cpuStep, h]

theorem State.cpuStep_stop {s : State} (h : s.execState = .stop) : s.cpuStep = s.stopStep := by
  rw [State.cpuStep, h]

theorem State.haltStep_of_none_pending {s : State} (h : s.pend = 0) : s.haltStep = .next (s.tick 4) :=
  if_neg (not_not.mpr h)

theorem State.haltStep_of_pending {s : State} (h : s.pend ≠ 0) :
    s.haltStep = ({ s with cycles := s.cycles + 4, execState := .normal } : State).interruptCheck :=
  if_pos h

theorem State.stopStep_of_high {s : State} (h : s.p1.extractLsb' 0 4 = 0xF) : s.stopStep = .next (s.tick 4) :=
  if_neg (not_not.mpr h)

theorem State.stopStep_of_low {s : State} (h : s.p1.extractLsb' 0 4 ≠ 0xF) :
    s.stopStep = .next { s with cycles := s.cycles + 4, execState := .normal } :=
  if_pos h

/-- The four lines of P1 are all high when each is (R313). -/
theorem lines_eq_high_iff : ∀ p1 : BitVec 6, p1.extractLsb' 0 4 = 0xF ↔ ∀ k : Fin 4, p1.getLsbD k = true := by
  decide

/-- Settles O5: Halt ends with the interrupt check where something is pending, Stop where a line is low. -/
theorem idleStatesWaitForTheirEvents : Obligations.IdleStatesWaitForTheirEvents := by
  intro s
  refine ⟨fun hhalt => ?_, fun hstop => ?_⟩
  · rw [State.cpuStep_halt hhalt]
    refine ⟨State.haltStep_of_none_pending, fun hpending hime => ?_, fun i hime hie hif hlowest => ?_⟩
    · rw [State.haltStep_of_pending hpending]
      exact State.interruptCheck_of_ime_clear hime
    · have hpending : s.pend ≠ 0 := fun h0 => by
        have hi := (s.getLsbD_pend_iff i).mpr ⟨hie, hif⟩
        simp [h0] at hi
      rw [State.haltStep_of_pending hpending]
      exact State.interruptCheck_of_lowest hime (State.lowestSource_pend hie hif hlowest)
  · rw [State.cpuStep_stop hstop]
    refine ⟨fun hhigh => State.stopStep_of_high ((lines_eq_high_iff s.p1).mpr hhigh), fun ⟨k, hk⟩ => ?_⟩
    exact State.stopStep_of_low fun h => by simp [(lines_eq_high_iff s.p1).mp h k] at hk

end Sys2Proof.Machine

/-! ## One iteration of the driving loop (O4) -/

namespace Sys2Proof.Machine

/-- Three bytes are as many as any instruction has. -/
theorem lengthOf_le_three : ∀ op : Byte, lengthOf op ≤ 3 := by
  decide

theorem decode_three (op b1 b2 : Byte) :
    decode [op, b1, b2] = .ok (decodeWindow op b1 b2, [b1, b2].drop (lengthOf op - 1)) :=
  if_neg (Nat.not_lt_of_le (lengthOf_le_three op))

/-- The step in Normal state: the instruction the bytes at PC decode to, then the check of R305. -/
theorem State.cpuStep_normal {s : State} {i : Instr} {rest : List Byte} (hnormal : s.execState = .normal)
    (hdecode : decode [s.read8 s.pc, s.read8 s.operandPc, s.read8 (s.operandPc + 1)] = .ok (i, rest)) :
    s.cpuStep = Result.andThen (exec i s.promoteEi) State.boundaryCheck := by
  have hinstr : s.promoteEi.decodeAtPc = i := by
    rw [decode_three] at hdecode
    simp only [Except.ok.injEq, Prod.mk.injEq] at hdecode
    simp [State.decodeAtPc, State.operandPc, ← hdecode.1]
  rw [State.cpuStep, hnormal, ← hinstr]
  rfl

/-- Settles O4: the host moves, then the CPU step of the state they leave, by that state's STATE, then the audio steps. -/
theorem stepRunsTheDecodedInstruction : Obligations.StepRunsTheDecodedInstruction := by
  rintro s u rfl
  have hstep {r : Result} (h : s.takeHostMoves.cpuStep = r) : step s = r.andThen fun t => .next t.apuCatchUp := by
    rw [← h]
    rfl
  refine ⟨fun i rest hnormal hdecode => hstep (State.cpuStep_normal hnormal hdecode), fun hhalt => ⟨fun hnone => ?_, fun hpending => ?_⟩,
    fun hstop => ⟨fun hhigh => ?_, fun hlow => ?_⟩⟩
  · exact hstep ((State.cpuStep_halt hhalt).trans (State.haltStep_of_none_pending hnone))
  · exact hstep ((State.cpuStep_halt hhalt).trans (State.haltStep_of_pending hpending))
  · exact hstep ((State.cpuStep_stop hstop).trans (State.stopStep_of_high hhigh))
  · exact hstep ((State.cpuStep_stop hstop).trans (State.stopStep_of_low hlow))

end Sys2Proof.Machine

/-! ## The audio cadence (O52) -/

namespace Sys2Proof.Machine

/-- The state after `k` turns of the loop of R358. -/
def State.afterTurns (s : State) (k : Nat) : State :=
  { s with apu := Nat.iterate Apu.step k s.apu, apuNext := s.apuNext + k * s.params.apuStepPeriod }

theorem State.afterTurns_apuTurn (s : State) (k : Nat) : s.apuTurn.afterTurns k = s.afterTurns (k + 1) := by
  have hnext : s.apuNext + s.params.apuStepPeriod + k * s.params.apuStepPeriod =
      s.apuNext + (k + 1) * s.params.apuStepPeriod := by ring
  simp only [State.afterTurns, State.apuTurn, hnext, Function.iterate_succ_apply]

/-- Each turn of the loop was due: the last one found its due time reached. -/
theorem State.apuLoop_eq_afterTurns (s : State) (fuel : Nat) :
    ∃ k, s.apuLoop fuel = s.afterTurns k ∧ (k ≠ 0 → s.apuNext + (k - 1) * s.params.apuStepPeriod ≤ s.cycles) := by
  induction fuel generalizing s with
  | zero => exact ⟨0, by simp [State.apuLoop, State.afterTurns], nofun⟩
  | succ n ih =>
    rw [State.apuLoop]
    split
    next hdue =>
      obtain ⟨k, hloop, hlast⟩ := ih s.apuTurn
      refine ⟨k + 1, by rw [hloop, s.afterTurns_apuTurn], fun _ => ?_⟩
      cases k with
      | zero => simpa using hdue
      | succ m =>
        have := hlast (Nat.succ_ne_zero m)
        simp only [State.apuTurn_apuNext, State.apuTurn_params, State.apuTurn_cycles, Nat.add_sub_cancel] at this ⊢
        linarith
    · exact ⟨0, by simp [State.afterTurns], nofun⟩

/-- Settles O52: the loop makes its turns while one is due, and ends with none due. -/
theorem audioStepsKeepTheirCadence : Obligations.AudioStepsKeepTheirCadence := by
  intro s hperiod
  obtain ⟨k, hloop, hlast⟩ := s.apuLoop_eq_afterTurns (s.cycles + 1 - s.apuNext)
  have hdue := s.apuCatchUp_due hperiod
  rw [State.apuCatchUp, hloop] at hdue
  exact ⟨k, hloop, hdue, hlast⟩

end Sys2Proof.Machine

/-! ## The host moves (O55) -/

namespace Sys2Proof.Machine

/-- A request sets the bit of its source (R312). -/
theorem getLsbD_requested : ∀ (flags : BitVec 5) (i : Fin 5), ∀ k < 5,
    (flags ||| sourceBit i).getLsbD k = (flags.getLsbD k || decide (k = i.val)) := by
  decide

theorem getLsbD_setLine_false : ∀ (p1 : BitVec 6) (line : Fin 4), ∀ k < 6,
    (setLine p1 line false).getLsbD k = (p1.getLsbD k && decide (k ≠ line.val)) := by
  decide

theorem getLsbD_setLine_true : ∀ (p1 : BitVec 6) (line : Fin 4), ∀ k < 6,
    (setLine p1 line true).getLsbD k = (p1.getLsbD k || decide (k = line.val)) := by
  decide

/-- The line of P1 that a button drives (R313). -/
def lineOf (x : Button) : Fin 4 :=
  match x with
  | .right | .a => 0
  | .left | .b => 1
  | .up | .select => 2
  | .down | .start => 3

/-- R313: the default map drives every line low. -/
theorem buttonLine_default (x : Button) : buttonLine ButtonMap.default x = ⟨lineOf x, false⟩ := by
  cases x <;> rfl

theorem State.press_default {s : State} (h : s.params.buttonMap = ButtonMap.default) (x : Button) :
    s.press x = { s with p1 := setLine s.p1 (lineOf x) false, iflags := s.iflags ||| sourceBit 4 } := by
  rw [State.press, h, buttonLine_default]

theorem State.release_default {s : State} (h : s.params.buttonMap = ButtonMap.default) (x : Button) :
    s.release x = { s with p1 := setLine s.p1 (lineOf x) true } := by
  rw [State.release, h, buttonLine_default]
  rfl

theorem isDeviceByte_iff {addr : Addr} :
    isDeviceByte addr = true ↔ 0xFF01 ≤ addr.toNat ∧ addr.toNat ≤ 0xFF7F ∧ ¬(0xFF0F ≤ addr.toNat ∧ addr.toNat ≤ 0xFF3F) :=
  decide_eq_true_iff

/-- A device writes its byte as a store into the plain I/O bytes does (R103). -/
theorem State.externalIoWrite_device (s : State) {addr : Addr} (v : Byte) (h : isDeviceByte addr = true) :
    s.externalIoWrite addr v = { s with io := Memory.write .io s.io (addr.toNat - 0xFF00) v } := if_pos h

theorem State.externalIoWrite_frame (s : State) (addr : Addr) (v : Byte) :
    s.externalIoWrite addr v = { s with io := (s.externalIoWrite addr v).io } := by
  by_cases h : isDeviceByte addr = true
  · simp only [s.externalIoWrite_device v h]
  · simp only [State.externalIoWrite, if_neg h]

/-- Settles O55: a button drives its line, a request is one bit of IF, and a device's bytes are plain storage. -/
theorem buttonsAndRequestsSetTheirBits : Obligations.ButtonsAndRequestsSetTheirBits := by
  intro s
  refine ⟨fun x hmap => ?_, fun i => ⟨getLsbD_requested s.iflags i, rfl⟩, fun addr v hlo hhi hout => ?_⟩
  · intro line
    have hline : line = (lineOf x).val := by cases x <;> rfl
    rw [hline, State.press_default hmap, State.release_default hmap]
    exact ⟨getLsbD_setLine_false s.p1 (lineOf x), getLsbD_requested s.iflags 4, rfl, getLsbD_setLine_true s.p1 (lineOf x), rfl⟩
  · have hdevice : isDeviceByte addr = true := isDeviceByte_iff.mpr ⟨hlo, hhi, hout⟩
    have hplain : IsPlainIo (addr.toNat - 0xFF00) := ⟨by omega, by omega, by omega⟩
    refine ⟨fun hwf => ?_, s.externalIoWrite_frame addr v⟩
    obtain ⟨-, -, -, -, hio, -⟩ := State.memoryWf_iff.mp hwf
    rw [s.externalIoWrite_device v hdevice, State.read8_of_io _ (region_eq_io (by omega) (by omega)), ← s.ioWrite_plain v hplain,
      State.ioRead_ioWrite_plain hio hplain]

end Sys2Proof.Machine

/-! ## How an instruction ends (O11, O60)

All but the control instructions and the unassigned rows are plain: they complete with the control state as it was, or one of
their writes selects the unsupported mapper mode (R97). -/

namespace Sys2Proof.Machine

/-- The control state and the kind of cartridge are the same in both states. -/
structure State.ControlKept (s t : State) : Prop where
  execState : t.execState = s.execState
  ime : t.ime = s.ime
  eiPending : t.eiPending = s.eiPending
  apuNext : t.apuNext = s.apuNext
  schedule : t.schedule = s.schedule
  kind : t.cart.kind = s.cart.kind

theorem State.ControlKept.trans {s t u : State} (h : s.ControlKept t) (h' : t.ControlKept u) : s.ControlKept u where
  execState := h'.execState.trans h.execState
  ime := h'.ime.trans h.ime
  eiPending := h'.eiPending.trans h.eiPending
  apuNext := h'.apuNext.trans h.apuNext
  schedule := h'.schedule.trans h.schedule
  kind := h'.kind.trans h.kind

theorem State.Quiet.controlKept {s t : State} (h : s.Quiet t) : s.ControlKept t where
  execState := h.control.execState
  ime := h.control.ime
  eiPending := h.control.eiPending
  apuNext := h.control.apuNext
  schedule := h.control.schedule
  kind := by rw [h.stores.cart]

theorem State.store8_controlKept (s : State) (addr : Addr) (v : Byte) : s.ControlKept (s.store8 addr v) :=
  have hcontrol := s.store8_control addr v
  ⟨hcontrol.execState, hcontrol.ime, hcontrol.eiPending, hcontrol.apuNext, hcontrol.schedule, s.store8_kind addr v⟩

theorem State.fetched_controlKept (s : State) (n : Addr) : s.ControlKept (s.fetched n) := (s.quiet_fetched n).controlKept

/-- `r`, begun in `s`, completes with the control state of `s`, or it is the fault of R97. -/
inductive Result.Plain (s : State) : Result → Prop where
  | next {t : State} (h : s.ControlKept t) : Plain s (.next t)
  | fault {addr : Addr} {v : Byte} (h : s.writeFaults addr v = true) : Plain s (.fault (.unsupportedMbc1Mode addr v))

theorem Result.Plain.completes_or_faults {r : Result} {s : State} (h : r.Plain s) :
    (∃ t, r = .next t) ∨ (s.cart.kind = .mbc1 ∧ ∃ (addr : Addr) (v : Byte), 0x6000 ≤ addr.toNat ∧ addr.toNat ≤ 0x7FFF ∧
      v.toNat % 2 = 1 ∧ r = .fault (.unsupportedMbc1Mode addr v)) := by
  cases h with
  | next _ => exact .inl ⟨_, rfl⟩
  | fault hfaults =>
    obtain ⟨hkind, hlo, hhi, hodd⟩ := (s.writeFaults_iff _ _).mp hfaults
    exact .inr ⟨hkind, _, _, hlo, hhi, hodd, rfl⟩

/-- What is plain from the state that a register update leaves is plain from the state before it. -/
theorem Result.Plain.after {r : Result} {s u : State} (h : r.Plain u) (hu : s.ControlKept u) : r.Plain s := by
  cases h with
  | next ht => exact .next (hu.trans ht)
  | fault hf => exact .fault ((State.writeFaults_congr hu.kind _ _).symm.trans hf)

theorem Result.Plain.andThen {r : Result} {f : State → Result} {s : State} (h : r.Plain s) (hf : ∀ u, (f u).Plain u) :
    (r.andThen f).Plain s := by
  cases h with
  | next ht => exact (hf _).after ht
  | fault hfault => exact .fault hfault

theorem Result.Plain.thenTick {r : Result} {s : State} (h : r.Plain s) (n : Nat) : (r.thenTick n).Plain s :=
  h.andThen fun u => .next (u.quiet_tick n).controlKept

/-- A conditional instruction is plain if both of its ends are. -/
theorem Result.Plain.ite {c : Prop} [Decidable c] {r r' : Result} {s : State} (h : r.Plain s) (h' : r'.Plain s) :
    Result.Plain s (if c then r else r') := by
  split
  · exact h
  · exact h'

/-! ### The shared operations -/

theorem State.write8_plain (s : State) (addr : Addr) (v : Byte) : (s.write8 addr v).Plain s := by
  unfold State.write8
  split
  next h => exact .fault h
  · exact .next (s.store8_controlKept addr v)

theorem State.write16_plain (s : State) (addr v : Addr) : (s.write16 addr v).Plain s :=
  (s.write8_plain addr _).andThen fun t => t.write8_plain (addr + 1) _

theorem State.controlKept_sp (s : State) (x : Addr) : s.ControlKept { s with sp := x } := by
  constructor <;> rfl

theorem State.push16_plain (s : State) (v : Addr) : (s.push16 v).Plain s :=
  ((write8_plain _ _ _).after (s.controlKept_sp _)).andThen fun t => (write8_plain _ _ _).after (t.controlKept_sp _)

theorem State.goTo_plain (s : State) (target : Addr) (cost : Nat) : (s.goTo target cost).Plain s :=
  .next (((s.quiet_pc target).trans (quiet_tick _ cost)).controlKept)

theorem State.callTo_plain (s : State) (target : Addr) (cost : Nat) : (s.callTo target cost).Plain s :=
  (s.push16_plain s.pc).andThen fun t => t.goTo_plain target cost

/-- The write of an operand after a register update, with its cost. -/
theorem State.writeOperand_thenTick_plain {s u : State} (t : Operand) (v : Byte) (cost : Nat) (hu : s.ControlKept u) :
    ((u.writeOperand t v).thenTick cost).Plain s := by
  refine Result.Plain.thenTick (Result.Plain.after ?_ hu) cost
  cases t with
  | reg r => exact .next (u.quiet_setReg8 r v).controlKept
  | atHl => exact u.write8_plain u.hl v

theorem State.fetched_withFlags_controlKept (s : State) (n : Addr) (r : Flagged) : s.ControlKept ((s.fetched n).withFlags r) :=
  ((s.quiet_fetched n).trans (quiet_setFlags _ r.z r.n r.h r.c)).controlKept

theorem State.fetched_tick_plain (s : State) (n : Addr) (cost : Nat) : Result.Plain s (.next ((s.fetched n).tick cost)) :=
  .next ((s.quiet_fetched n).trans (quiet_tick _ cost)).controlKept

theorem State.fetched_goTo_plain (s : State) (n target : Addr) (cost : Nat) : ((s.fetched n).goTo target cost).Plain s :=
  (goTo_plain _ target cost).after (s.fetched_controlKept n)

theorem State.fetched_callTo_plain (s : State) (n target : Addr) (cost : Nat) : ((s.fetched n).callTo target cost).Plain s :=
  (callTo_plain _ target cost).after (s.fetched_controlKept n)

theorem State.fetched_return_plain (s : State) (cost : Nat) : ((s.fetched 1).popped.goTo s.popValue cost).Plain s :=
  (goTo_plain _ s.popValue cost).after ((s.quiet_fetched 1).trans (quiet_popped _)).controlKept

/-! ### The families -/

theorem aluOperand_plain (o : AluOp) (t : Operand) (s : State) : (aluOperand o t s).Plain s := by
  unfold aluOperand State.applyAlu
  exact .next (by constructor <;> simp)

theorem aluImm_plain (o : AluOp) (n : Byte) (s : State) : (aluImm o n s).Plain s := by
  unfold aluImm State.applyAlu
  exact .next (by constructor <;> simp)

theorem rotateA_plain (o : RotOp) (s : State) : (rotateA o s).Plain s := .next (by constructor <;> simp)

theorem loadAFrom_plain (addr n : Addr) (cost : Nat) (s : State) : (loadAFrom addr n cost s).Plain s :=
  .next (by constructor <;> simp)

theorem storeATo_plain (addr n : Addr) (cost : Nat) (s : State) : (storeATo addr n cost s).Plain s :=
  ((State.write8_plain _ addr _).after (s.fetched_controlKept n)).thenTick cost

theorem storePointerA_plain (p : Pointer) (s : State) : (storePointerA p s).Plain s :=
  ((State.write8_plain _ _ _).after (s.fetched_controlKept 1)).andThen fun t =>
    .next ((t.quiet_stepPointer p).trans (State.quiet_tick _ 8)).controlKept

theorem jumpIf_plain (k : Cond) (n : Addr) (s : State) : (jumpIf k n s).Plain s :=
  .ite (s.fetched_goTo_plain 3 n 16) (s.fetched_tick_plain 3 12)

theorem jumpRelativeIf_plain (k : Cond) (e : Byte) (s : State) : (jumpRelativeIf k e s).Plain s :=
  .ite (s.fetched_goTo_plain 2 _ 12) (s.fetched_tick_plain 2 8)

theorem callIf_plain (k : Cond) (n : Addr) (s : State) : (callIf k n s).Plain s :=
  .ite (s.fetched_callTo_plain 3 n 24) (s.fetched_tick_plain 3 12)

theorem returnIf_plain (k : Cond) (s : State) : (returnIf k s).Plain s :=
  .ite (s.fetched_return_plain 20) (s.fetched_tick_plain 1 8)

/-! ### Every instruction, block by block of the opcode map -/

/-- The instructions that write STATE, IME or EI_PENDING (R280, R291 to R294). -/
inductive IsControl : Instr → Prop where
  | halt : IsControl .halt
  | stop (x : Byte) : IsControl (.stop x)
  | di : IsControl .di
  | ei : IsControl .ei
  | reti : IsControl .reti

/-- What `i` is, or how it ends in `s`. -/
inductive Ends (s : State) (i : Instr) : Prop where
  | control (h : IsControl i)
  | unassigned (h : i ∈ unassigned)
  | plain (h : Result.Plain s (exec i s))

theorem ends_decodeBlock0 (op b1 b2 : Byte) (s : State) : Ends s (decodeBlock0 op b1 b2) := by
  unfold decodeBlock0
  split
  · split
    · exact .plain (s.fetched_tick_plain 1 4)
    · exact .plain (((State.write16_plain _ _ _).after (s.fetched_controlKept 3)).thenTick 20)
    · exact .control (.stop b1)
    · exact .plain (s.fetched_goTo_plain 2 _ 12)
    all_goals exact .plain (exec_jrCc _ b1 s ▸ jumpRelativeIf_plain _ b1 s)
  · split
    · exact .plain (exec_addHlRr _ s ▸ .next (by constructor <;> simp))
    · exact .plain (exec_ldRrN16 _ _ s ▸ .next (by constructor <;> simp))
  · split
    · exact .plain (exec_ldAPointer _ s ▸ .next (by constructor <;> simp))
    · exact .plain (exec_ldPointerA _ s ▸ storePointerA_plain _ s)
  · split
    · exact .plain (exec_decRr _ s ▸ .next (by constructor <;> simp))
    · exact .plain (exec_incRr _ s ▸ .next (by constructor <;> simp))
  · exact .plain (exec_inc _ s ▸ State.writeOperand_thenTick_plain _ _ _ (s.fetched_withFlags_controlKept 1 _))
  · exact .plain (exec_dec _ s ▸ State.writeOperand_thenTick_plain _ _ _ (s.fetched_withFlags_controlKept 1 _))
  · exact .plain (exec_ldN8 _ b1 s ▸ State.writeOperand_thenTick_plain _ _ _ (s.fetched_controlKept 2))
  · split
    case h_1 | h_2 | h_3 | h_4 => exact .plain (rotateA_plain _ s)
    all_goals exact .plain (.next (by constructor <;> simp))

theorem ends_decodeBlock1 (op : Byte) (s : State) : Ends s (decodeBlock1 op) := by
  unfold decodeBlock1
  split
  · exact .plain (exec_ldRegReg _ _ s ▸ .next (by constructor <;> simp))
  · exact .plain (exec_ldRegAtHl _ s ▸ .next (by constructor <;> simp))
  · exact .plain (exec_ldAtHlReg _ s ▸ ((State.write8_plain _ _ _).after (s.fetched_controlKept 1)).thenTick 8)
  · exact .control .halt

theorem ends_decodeBlock2 (op : Byte) (s : State) : Ends s (decodeBlock2 op) :=
  .plain (exec_alu _ _ s ▸ aluOperand_plain _ _ s)

theorem ends_decodeCb (op2 : Byte) (s : State) : Ends s (decodeCb op2) := by
  unfold decodeCb
  split
  · exact .plain (exec_rot _ _ s ▸ State.writeOperand_thenTick_plain _ _ _ (s.fetched_withFlags_controlKept 2 _))
  · exact .plain (exec_bit _ _ s ▸ .next (by constructor <;> simp))
  · exact .plain (exec_res _ _ s ▸ State.writeOperand_thenTick_plain _ _ _ (s.fetched_controlKept 2))
  · exact .plain (exec_set _ _ s ▸ State.writeOperand_thenTick_plain _ _ _ (s.fetched_controlKept 2))

theorem ends_decodeBlock3 (op b1 b2 : Byte) (s : State) : Ends s (decodeBlock3 op b1 b2) := by
  unfold decodeBlock3
  split
  · split
    case h_1 | h_2 | h_3 | h_4 => exact .plain (exec_retCc _ s ▸ returnIf_plain _ s)
    · exact .plain (storeATo_plain _ 2 12 s)
    · exact .plain (.next (by constructor <;> simp))
    · exact .plain (loadAFrom_plain _ 2 12 s)
    · exact .plain (.next (by constructor <;> simp))
  · split
    · exact .plain (exec_pop _ s ▸ .next (by constructor <;> simp))
    · exact .plain (s.fetched_return_plain 16)
    · exact .control .reti
    · exact .plain (s.fetched_goTo_plain 1 s.hl 4)
    · exact .plain (.next (by constructor <;> simp))
  · split
    case h_1 | h_2 | h_3 | h_4 => exact .plain (exec_jpCc _ _ s ▸ jumpIf_plain _ _ s)
    · exact .plain (storeATo_plain _ 1 8 s)
    · exact .plain (storeATo_plain _ 3 16 s)
    · exact .plain (loadAFrom_plain _ 1 8 s)
    · exact .plain (loadAFrom_plain _ 3 16 s)
  · split
    · exact .plain (s.fetched_goTo_plain 3 _ 16)
    · exact ends_decodeCb b1 s
    case h_7 => exact .control .di
    case h_8 => exact .control .ei
    all_goals exact .unassigned (by decide)
  · split
    case h_1 | h_2 | h_3 | h_4 => exact .plain (exec_callCc _ _ s ▸ callIf_plain _ _ s)
    all_goals exact .unassigned (by decide)
  · split
    · exact .plain (exec_push _ s ▸ ((State.push16_plain _ _).after (s.fetched_controlKept 1)).thenTick 16)
    · exact .plain (s.fetched_callTo_plain 3 _ 24)
    all_goals exact .unassigned (by decide)
  · exact .plain (exec_aluN8 _ b1 s ▸ aluImm_plain _ b1 s)
  · exact .plain (exec_rst _ s ▸ s.fetched_callTo_plain 1 _ 16)

/-- Every instruction is what its own bytes decode to. -/
theorem exists_decodeWindow (i : Instr) : ∃ op b1 b2, decodeWindow op b1 b2 = i := by
  have h := decodeOfEncodeIsTheInstruction i []
  unfold decode at h
  split at h
  · cases h
  · split at h
    · cases h
    · exact ⟨_, _, _, (Prod.mk.inj (Except.ok.inj h)).1⟩

theorem every_instr_ends (i : Instr) (s : State) : Ends s i := by
  obtain ⟨op, b1, b2, rfl⟩ := exists_decodeWindow i
  unfold decodeWindow
  split
  · exact ends_decodeBlock0 op b1 b2 s
  · exact ends_decodeBlock1 op s
  · exact ends_decodeBlock2 op s
  · exact ends_decodeBlock3 op b1 b2 s

/-- R295: each unassigned row faults with a byte and the address of it. -/
theorem exec_unassigned {i : Instr} (h : i ∈ unassigned) (s : State) : ∃ op, exec i s = .fault (.illegalOpcode op s.pc) := by
  simp only [unassigned, List.mem_cons, List.not_mem_nil, or_false] at h
  rcases h with rfl | rfl | rfl | rfl | rfl | rfl | rfl | rfl | rfl | rfl | rfl <;> exact ⟨_, rfl⟩

/-- HALT completes, with STATE alone of the control state changed, or it is the fault of R291. -/
theorem haltCpu_ends (s : State) :
    (∃ t, haltCpu s = .next t ∧ ({ s with execState := t.execState } : State).ControlKept t) ∨
      (s.params.haltPendingIme0 = .fault ∧ s.ime = false ∧ s.pend ≠ 0 ∧ haltCpu s = .fault (.haltBug s.pc)) := by
  by_cases hpend : s.pend = 0
  · exact .inl ⟨_, haltCpu_of_none_pending hpend, by constructor <;> rfl⟩
  · by_cases hime : s.ime = true
    · exact .inl ⟨_, haltCpu_of_ime hpend hime, by constructor <;> rfl⟩
    · rw [Bool.not_eq_true] at hime
      cases hp : s.params.haltPendingIme0 with
      | resume => exact .inl ⟨_, haltCpu_of_resume hpend hp, by constructor <;> rfl⟩
      | fault => exact .inr ⟨rfl, hime, hpend, haltCpu_of_fault hpend hime hp⟩
      | bug => exact .inl ⟨_, haltCpu_of_bug hpend hime hp, by constructor <;> rfl⟩

/-- Settles O60: a plain instruction keeps the control state, and of the control instructions each writes its own fields. -/
theorem onlyNamedInstructionsChangeControlState : Obligations.OnlyNamedInstructionsChangeControlState := by
  intro i s t ht
  cases every_instr_ends i s with
  | plain h =>
    rw [ht] at h
    obtain ⟨hkept⟩ := h
    exact ⟨fun _ _ => hkept.ime, fun _ _ => hkept.eiPending, fun _ _ => hkept.execState, hkept.apuNext, hkept.schedule⟩
  | unassigned h =>
    obtain ⟨op, hop⟩ := exec_unassigned h s
    cases ht.symm.trans hop
  | control h =>
    cases h with
    | di =>
      cases ht.symm.trans (exec_di s)
      exact ⟨fun h => absurd rfl h, fun h => absurd rfl h, fun _ _ => rfl, rfl, rfl⟩
    | ei =>
      cases ht.symm.trans (exec_ei s)
      exact ⟨fun _ _ => rfl, fun _ h => absurd rfl h, fun _ _ => rfl, rfl, rfl⟩
    | reti =>
      cases ht.symm.trans (returnAndEnable_eq s)
      exact ⟨fun _ h => absurd rfl h, fun _ _ => rfl, fun _ _ => rfl, rfl, rfl⟩
    | stop x =>
      cases ht.symm.trans (exec_stop s x)
      exact ⟨fun _ _ => rfl, fun _ _ => rfl, fun _ h => absurd rfl (h x), rfl, rfl⟩
    | halt =>
      obtain ⟨u, hu, hkept⟩ | ⟨-, -, -, hfault⟩ := haltCpu_ends s
      · cases ht.symm.trans hu
        exact ⟨fun _ _ => hkept.ime, fun _ _ => hkept.eiPending, fun h => absurd rfl h, hkept.apuNext, hkept.schedule⟩
      · cases ht.symm.trans hfault

/-! ### The writes that fault -/

theorem State.write8_faultsAtWrite (s : State) (addr : Addr) (v : Byte) : s.FaultsAtWrite (s.write8 addr v) addr v :=
  fun h => if_pos h

/-- What follows a fault does not happen (R300). -/
theorem State.FaultsAtWrite.andThen {s : State} {r : Result} {addr : Addr} {v : Byte} (h : s.FaultsAtWrite r addr v)
    (f : State → Result) : s.FaultsAtWrite (r.andThen f) addr v :=
  fun hfaults => by rw [h hfaults, Result.andThen_fault]

theorem State.FaultsAtWrites.andThen {s : State} {r : Result} {addr addr' : Addr} {v w : Byte}
    (h : s.FaultsAtWrites r addr v addr' w) (f : State → Result) : s.FaultsAtWrites (r.andThen f) addr v addr' w :=
  ⟨h.1.andThen f, fun hok => (h.2 hok).andThen f⟩

/-- Whether a write faults is told by the kind of cartridge, which register updates keep. -/
theorem State.FaultsAtWrite.before {s u : State} {r : Result} {addr : Addr} {v : Byte} (h : u.FaultsAtWrite r addr v)
    (hkind : u.cart.kind = s.cart.kind) : s.FaultsAtWrite r addr v :=
  fun hfaults => h ((writeFaults_congr hkind addr v).trans hfaults)

/-- A write, and a second one where the first completes. -/
theorem State.write8_andThen_faultsAtWrites (s : State) {f : State → Result} (addr : Addr) (v : Byte) {addr' : Addr} {w : Byte}
    (hf : ∀ t, t = s.store8 addr v → t.FaultsAtWrite (f t) addr' w) :
    s.FaultsAtWrites ((s.write8 addr v).andThen f) addr v addr' w := by
  refine ⟨(s.write8_faultsAtWrite addr v).andThen f, fun hok => ?_⟩
  rw [write8_of_ok hok, Result.andThen_next]
  exact (hf _ rfl).before (s.store8_kind addr v)

theorem State.write16_faultsAtWrites (s : State) (addr v : Addr) :
    s.FaultsAtWrites (s.write16 addr v) addr (loByte v) (addr + 1) (hiByte v) :=
  s.write8_andThen_faultsAtWrites addr _ fun t _ => t.write8_faultsAtWrite (addr + 1) _

theorem State.push16_faultsAtWrites (s : State) (v : Addr) :
    s.FaultsAtWrites (s.push16 v) (s.sp - 1) (hiByte v) (s.sp - 2) (loByte v) := by
  have hsp : s.sp - 1 - 1 = s.sp - 2 := by bv_omega
  refine write8_andThen_faultsAtWrites { s with sp := s.sp - 1 } (s.sp - 1) _ fun t ht => ?_
  have htsp : t.sp = s.sp - 1 := by rw [ht, store8_sp]
  rw [htsp, hsp]
  exact write8_faultsAtWrite { t with sp := s.sp - 2 } _ _

/-- The fetch of an instruction of `n` bytes and its one write, with what follows. -/
theorem State.fetched_faultsAtWrite (s : State) (n : Addr) (addr : Addr) (v : Byte) (f : State → Result) :
    s.FaultsAtWrite (((s.fetched n).write8 addr v).andThen f) addr v :=
  (write8_faultsAtWrite (s.fetched n) addr v).andThen f

/-- The same with the flags written first. -/
theorem State.fetched_withFlags_faultsAtWrite (s : State) (n : Addr) (r : Flagged) (addr : Addr) (v : Byte) (f : State → Result) :
    s.FaultsAtWrite ((((s.fetched n).withFlags r).write8 addr v).andThen f) addr v :=
  (write8_faultsAtWrite ((s.fetched n).withFlags r) addr v).andThen f

/-- The fetch of an instruction of `n` bytes and its push, with what follows. -/
theorem State.fetched_push16_faultsAtWrites (s : State) (n v : Addr) (f : State → Result) :
    s.FaultsAtWrites (((s.fetched n).push16 v).andThen f) (s.sp - 1) (hiByte v) (s.sp - 2) (loByte v) :=
  (push16_faultsAtWrites (s.fetched n) v).andThen f

/-- Settles O11: the first part by the ways an instruction ends, the second by the writes of each storing form. -/
theorem everyInstructionCompletesOrFaultsByName : Obligations.EveryInstructionCompletesOrFaultsByName := by
  refine ⟨fun i s => ?_, fun s => ⟨fun src => ?_, fun n => ?_, fun p => ?_, fun n => ?_, fun n => ?_, fun rr => ?_, ?_, ?_,
    fun o w hw => ?_, fun b w hw => ?_, fun b w hw => ?_, fun n => ?_, fun k n hk => ?_, fun y => ?_⟩⟩
  · by_cases hwf : i.WellFormed
    · cases every_instr_ends i s with
      | unassigned h => exact absurd h hwf
      | plain h =>
        obtain ⟨t, ht⟩ | hfaults := h.completes_or_faults
        · exact .inl ⟨hwf, t, ht⟩
        · exact .inr (.inr (.inl hfaults))
      | control h =>
        cases h with
        | halt =>
          obtain ⟨t, ht, -⟩ | hfault := haltCpu_ends s
          · exact .inl ⟨hwf, t, ht⟩
          · exact .inr (.inr (.inr ⟨rfl, hfault⟩))
        | stop | di | ei | reti => exact .inl ⟨hwf, _, rfl⟩
    · exact .inr (.inl ⟨hwf, exec_unassigned (not_not.mp hwf) s⟩)
  · rw [exec_ldAtHlReg]
    exact s.fetched_faultsAtWrite 1 s.hl _ _
  · rw [exec_ldN8]
    exact s.fetched_faultsAtWrite 2 s.hl n _
  · rw [exec_ldPointerA]
    exact s.fetched_faultsAtWrite 1 _ _ _
  · exact s.fetched_faultsAtWrite 3 n _ _
  · exact (State.write16_faultsAtWrites (s.fetched 3) n s.sp).andThen _
  · rw [exec_push]
    exact s.fetched_push16_faultsAtWrites 1 _ _
  · rw [exec_inc]
    exact s.fetched_withFlags_faultsAtWrite 1 (incFlags (s.read8 s.hl) s.flagC) s.hl _ _
  · rw [exec_dec]
    exact s.fetched_withFlags_faultsAtWrite 1 (decFlags (s.read8 s.hl) s.flagC) s.hl _ _
  · obtain ⟨hvalue, -, -, -, -⟩ := rotFlags_is o (s.read8 s.hl) s.flagC
    obtain rfl : w = (rotFlags o (s.read8 s.hl) s.flagC).value := BitVec.eq_of_toNat_eq (hw.trans hvalue.symm)
    rw [exec_rot]
    exact s.fetched_withFlags_faultsAtWrite 2 (rotFlags o (s.read8 s.hl) s.flagC) s.hl _ _
  · obtain rfl : w = s.read8 s.hl &&& ~~~(bitMask b) :=
      BitVec.eq_of_getLsbD_eq fun k hk => (hw k hk).trans (getLsbD_and_not_bitMask hk (s.read8 s.hl) b).symm
    rw [exec_res]
    exact s.fetched_faultsAtWrite 2 s.hl _ _
  · obtain rfl : w = s.read8 s.hl ||| bitMask b :=
      BitVec.eq_of_getLsbD_eq fun k hk => (hw k hk).trans (getLsbD_or_bitMask k (s.read8 s.hl) b).symm
    rw [exec_set]
    exact s.fetched_faultsAtWrite 2 s.hl _ _
  · exact s.fetched_push16_faultsAtWrites 3 _ _
  · rw [exec_callCc, callIf, if_pos ((s.cond_iff k).mpr hk)]
    exact s.fetched_push16_faultsAtWrites 3 _ _
  · rw [exec_rst]
    exact s.fetched_push16_faultsAtWrites 1 _ _

end Sys2Proof.Machine

/-! ## The audio registers and the power (O47, O48) -/

namespace Sys2Proof.Machine

/-! ### One update of the unit at a time -/

theorem Apu.setReg_len (apu : Apu) (n : Chan) (k : Nat) (v : Byte) : (apu.setReg k v).len n = apu.len n := by
  cases n <;> rfl

theorem Apu.setLen_len (apu : Apu) (n m : Chan) (x : Nat) : (apu.setLen n x).len m = if m = n then x else apu.len m := by
  cases n <;> cases m <;> rfl

theorem Apu.setLen_chOn (apu : Apu) (n m : Chan) (x : Nat) : (apu.setLen n x).chOn m = apu.chOn m := by
  cases n <;> cases m <;> rfl

theorem Apu.setLen_self (apu : Apu) (n : Chan) : apu.setLen n (apu.len n) = apu := by
  cases n <;> rfl

theorem Apu.setChOn_chOn (apu : Apu) (n m : Chan) (x : Bool) : (apu.setChOn n x).chOn m = if m = n then x else apu.chOn m := by
  cases n <;> cases m <;> rfl

theorem Apu.setChOn_len (apu : Apu) (n m : Chan) (x : Bool) : (apu.setChOn n x).len m = apu.len m := by
  cases n <;> cases m <;> rfl

theorem Apu.setChOn_self (apu : Apu) (n : Chan) : apu.setChOn n (apu.chOn n) = apu := by
  cases n <;> rfl

theorem Apu.regStored_of_regs {apu t : Apu} (hwf : Memory.wf .apu apu.regs = true) {k : Nat} {v : Byte}
    (h : t.regs = (apu.setReg k v).regs) : apu.RegStored t k v where
  reg := by rw [Apu.reg_congr h, Apu.reg_setReg hwf, if_pos rfl]
  others j hj := by rw [Apu.reg_congr h, Apu.reg_setReg_other _ v hj]

/-- From `apu` to `t` the frame sequencer, the cached envelopes and the sweep are the same, and no channel has turned on. -/
structure Apu.CacheKept (apu t : Apu) : Prop where
  fs : t.fs = apu.fs
  env1 : t.env1 = apu.env1
  env2 : t.env2 = apu.env2
  env4 : t.env4 = apu.env4
  sweep : t.sweep = apu.sweep
  falls : ∀ n, t.chOn n = true → apu.chOn n = true

theorem Apu.CacheKept.refl (apu : Apu) : apu.CacheKept apu := ⟨rfl, rfl, rfl, rfl, rfl, fun _ => id⟩

theorem Apu.CacheKept.trans {apu t u : Apu} (h : apu.CacheKept t) (h' : t.CacheKept u) : apu.CacheKept u where
  fs := h'.fs.trans h.fs
  env1 := h'.env1.trans h.env1
  env2 := h'.env2.trans h.env2
  env4 := h'.env4.trans h.env4
  sweep := h'.sweep.trans h.sweep
  falls n hn := h.falls n (h'.falls n hn)

theorem Apu.setReg_cacheKept (apu : Apu) (k : Nat) (v : Byte) : apu.CacheKept (apu.setReg k v) where
  fs := rfl
  env1 := rfl
  env2 := rfl
  env4 := rfl
  sweep := rfl
  falls n hn := (apu.chOn_setReg n k v).symm.trans hn

theorem Apu.setLen_cacheKept (apu : Apu) (n : Chan) (x : Nat) : apu.CacheKept (apu.setLen n x) := by
  have hfalls : ∀ m, (apu.setLen n x).chOn m = true → apu.chOn m = true := fun m hm => (apu.setLen_chOn n m x).symm.trans hm
  cases n <;> exact ⟨rfl, rfl, rfl, rfl, rfl, hfalls⟩

theorem Apu.setChOn_false_cacheKept (apu : Apu) (n : Chan) : apu.CacheKept (apu.setChOn n false) := by
  have hfalls : ∀ m, (apu.setChOn n false).chOn m = true → apu.chOn m = true := fun m hm => by
    rw [apu.setChOn_chOn] at hm
    split at hm
    · cases hm
    · exact hm
  cases n <;> exact ⟨rfl, rfl, rfl, rfl, rfl, hfalls⟩

/-! ### NR52 (R345) -/

theorem Apu.writeNr52_off (p : Params) {apu : Apu} {v : Byte} (hv : v.getLsbD 7 = false) (hpower : apu.power = true) :
    apu.writeNr52 p v = apu.powerOff p := by
  rw [Apu.writeNr52, hv, hpower]

theorem Apu.writeNr52_on (p : Params) {apu : Apu} {v : Byte} (hv : v.getLsbD 7 = true) (hpower : apu.power = false) :
    apu.writeNr52 p v = apu.setReg 0x16 0x80 := by
  rw [Apu.writeNr52, hv, hpower]

theorem Apu.writeNr52_same (p : Params) {apu : Apu} {v : Byte} (h : v.getLsbD 7 = apu.power) : apu.writeNr52 p v = apu := by
  rw [Apu.writeNr52, h]
  split <;> simp_all

theorem Apu.powerOff_cacheKept (p : Params) (apu : Apu) : apu.CacheKept (apu.powerOff p) := by
  rw [apu.powerOff_eq p]
  exact ⟨rfl, rfl, rfl, rfl, rfl, fun n hn => by cases n <;> cases hn⟩

theorem Apu.powerOff_power (p : Params) {apu : Apu} (hwf : Memory.wf .apu apu.regs = true) : (apu.powerOff p).power = false := by
  rw [Apu.power, (Apu.powerOff_reg p hwf).2 0x16 (le_refl _)]
  rfl

/-- With the unit off and every channel off only the bits of NR52 that always read as one are left (R343). -/
theorem Apu.readNr52_of_silent {apu : Apu} (hpower : apu.power = false) (hon : ∀ n, apu.chOn n = false) : apu.readNr52 = 0x70 := by
  have h1 : apu.on1 = false := hon .ch1
  have h2 : apu.on2 = false := hon .ch2
  have h3 : apu.on3 = false := hon .ch3
  have h4 : apu.on4 = false := hon .ch4
  rw [Apu.readNr52, hpower, h1, h2, h3, h4]
  rfl

/-- The wave memory is cleared if the parameter says so, and otherwise kept. -/
theorem Apu.powerOff_wave (p : Params) {apu : Apu} (hwf : Memory.wf .apu apu.regs = true) {k : Nat} (hlo : 0x20 ≤ k) (hhi : k < 0x30) :
    (apu.powerOff p).reg k = if p.waveClearedOnPowerOff then 0 else apu.reg k := by
  have hlow := Apu.clearRegs_lowZero (apu := { apu with on1 := false, on2 := false, on3 := false, on4 := false }) hwf
  have hkept := Apu.clearRegs_reg (apu := { apu with on1 := false, on2 := false, on3 := false, on4 := false }) hwf
    (lo := 0x00) (n := 0x16) (by decide) k
  rw [if_neg (by omega)] at hkept
  unfold Apu.powerOff
  dsimp only
  rw [Apu.reg_setReg_other _ _ (by omega)]
  split
  · rw [Apu.clearRegs_reg hlow.wf (by decide), if_pos (by omega)]
  · exact hkept

/-- A store into the audio window is the unit's write of the register (R344). -/
theorem State.store8_audio (s : State) {k : Nat} (hk : k < 0x30) (v : Byte) :
    s.store8 (BitVec.ofNat 16 (0xFF10 + k)) v = { s with apu := s.apu.write s.params k v } := by
  have haddr : (BitVec.ofNat 16 (0xFF10 + k)).toNat = 0xFF10 + k := by
    rw [BitVec.toNat_ofNat]
    omega
  rw [s.store8_of_io v (region_eq_io (by omega) (by omega)), haddr, s.ioWrite_audio (by omega) (by omega),
    show 0xFF10 + k - 0xFF00 - 0x10 = k by omega]

theorem State.store8_nr52 (s : State) (v : Byte) : s.store8 0xFF26 v = { s with apu := s.apu.writeNr52 s.params v } :=
  s.store8_audio (k := 0x16) (by decide) v

theorem State.read8_nr52 (s : State) : s.read8 0xFF26 = s.apu.readNr52 := s.read8_audio (k := 0x16) (by decide)

/-- Settles O47: bit 7 against the power bit tells which of `powerOff`, the power bit and nothing is written. -/
theorem audioPowerSwitch : Obligations.AudioPowerSwitch := by
  intro s v hwf
  obtain ⟨-, -, -, -, -, -, -, hregs⟩ := State.memoryWf_iff.mp hwf
  rw [s.store8_nr52]
  refine ⟨fun hv hpower => ?_, fun hv hpower => ?_, fun hsame => ?_⟩
  · rw [Apu.writeNr52_off _ hv hpower]
    obtain ⟨hfs, henv1, henv2, henv4, hsweep, -⟩ := s.apu.powerOff_cacheKept s.params
    have heq := s.apu.powerOff_eq s.params
    have hon : ∀ n, (s.apu.powerOff s.params).chOn n = false := fun n => by
      rw [heq]
      cases n <;> rfl
    have hlen : ∀ n, (s.apu.powerOff s.params).len n = s.apu.len n := fun n => by
      rw [heq]
      cases n <;> rfl
    refine ⟨hon, fun k hk => (Apu.powerOff_reg s.params hregs).2 k (by omega), ?_,
      fun k hlo hhi => Apu.powerOff_wave s.params hregs hlo hhi, hfs, hlen, henv1, henv2, henv4, hsweep⟩
    rw [State.read8_nr52]
    exact Apu.readNr52_of_silent (Apu.powerOff_power s.params hregs) hon
  · rw [Apu.writeNr52_on _ hv hpower]
    obtain ⟨hreg, hothers⟩ := Apu.regStored_of_regs hregs (k := 0x16) (v := 0x80) rfl
    exact ⟨hreg, hothers, rfl⟩
  · rw [Apu.writeNr52_same _ hsame]

/-! ### What a trigger is, channel by channel (R350) -/

/-- The length a trigger leaves: reloaded where it is 0, the length is enabled and the phase is one of `LEN_RELOAD_ALIGN`. -/
def Apu.triggeredLen (p : Params) (apu : Apu) (n : Chan) : Nat :=
  if apu.len n = 0 ∧ apu.lengthEnabled n = true ∧ p.lenReloadAlign.getLsbD apu.fs = true then
    lengthLoad n (apu.reg (lengthReg n))
  else apu.len n

theorem Apu.triggerLength_eq (p : Params) (apu : Apu) (n : Chan) :
    apu.triggerLength p n = apu.setLen n (apu.triggeredLen p n) := by
  unfold Apu.triggerLength Apu.triggeredLen
  split
  · rfl
  · exact (apu.setLen_self n).symm

/-- The sweep a trigger of channel 1 loads, before its immediate check. -/
def Apu.loadedSweep (apu : Apu) : Sweep where
  pace := apu.sweepPace
  cnt := if apu.sweepPace ≠ 0 then apu.sweepPace else 8
  en := decide (apu.sweepPace ≠ 0 ∨ apu.sweepShift ≠ 0)
  freq := apu.frequency1
  negDone := false

/-- The immediate check (R350 step 5, R355): channel 1 falls on an overflow, and a subtraction is recorded. -/
theorem Apu.triggerCheck_ch1 (apu : Apu) :
    apu.triggerCheck .ch1 =
      { apu with
        on1 := apu.on1 && !(decide (apu.sweepShift ≠ 0) && apu.sweepOverflow)
        sweep := { apu.sweep with negDone := apu.sweep.negDone || (decide (apu.sweepShift ≠ 0) && apu.sweepDown) } } := by
  unfold Apu.triggerCheck Apu.recordNegate
  by_cases hshift : apu.sweepShift = 0
  · simp [hshift]
  · cases hovf : apu.sweepOverflow <;> cases hdown : apu.sweepDown <;> simp [hshift, Apu.setChOn]

theorem Apu.trigger_ch1 (p : Params) (apu : Apu) :
    apu.trigger p .ch1 =
      Apu.triggerCheck { apu with
        len1 := apu.triggeredLen p .ch1
        env1 := Envelope.load (apu.reg 0x02)
        sweep := apu.loadedSweep
        on1 := apu.dacOn .ch1 } .ch1 := by
  rw [Apu.trigger, Apu.triggerLength_eq]
  rfl

theorem Apu.trigger_ch2 (p : Params) (apu : Apu) :
    apu.trigger p .ch2 =
      { apu with len2 := apu.triggeredLen p .ch2, env2 := Envelope.load (apu.reg 0x07), on2 := apu.dacOn .ch2 } := by
  rw [Apu.trigger, Apu.triggerLength_eq]
  rfl

theorem Apu.trigger_ch3 (p : Params) (apu : Apu) :
    apu.trigger p .ch3 = { apu with len3 := apu.triggeredLen p .ch3, on3 := apu.dacOn .ch3 } := by
  rw [Apu.trigger, Apu.triggerLength_eq]
  rfl

theorem Apu.trigger_ch4 (p : Params) (apu : Apu) :
    apu.trigger p .ch4 =
      { apu with len4 := apu.triggeredLen p .ch4, env4 := Envelope.load (apu.reg 0x11), on4 := apu.dacOn .ch4 } := by
  rw [Apu.trigger, Apu.triggerLength_eq]
  rfl

theorem Apu.trigger_fs (p : Params) (apu : Apu) (n : Chan) : (apu.trigger p n).fs = apu.fs := by
  cases n with
  | ch1 => rw [apu.trigger_ch1, Apu.triggerCheck_ch1]
  | ch2 => rw [apu.trigger_ch2]
  | ch3 => rw [apu.trigger_ch3]
  | ch4 => rw [apu.trigger_ch4]

/-! ### What each write is (R344) -/

theorem Apu.write_on (p : Params) {apu : Apu} (hpower : apu.power = true) {k : Nat} (hk : k < 0x16) (h5 : k ≠ 0x05) (hF : k ≠ 0x0F)
    (v : Byte) : apu.write p k v = apu.writeOn p k v := by
  rw [Apu.write, if_neg (by omega), if_neg (by omega), if_neg (by omega), if_pos hpower]

theorem Apu.write_off (p : Params) {apu : Apu} (hpower : apu.power = false) {k : Nat} (hk : k < 0x16) (h5 : k ≠ 0x05)
    (hF : k ≠ 0x0F) (v : Byte) : apu.write p k v = apu.writeOff k v := by
  rw [Apu.write, if_neg (by omega), if_neg (by omega), if_neg (by omega), if_neg (by simp [hpower])]

/-- The numbers that name no register (R344). -/
theorem Apu.write_unused (p : Params) (apu : Apu) {k : Nat} (hk : k = 0x05 ∨ k = 0x0F ∨ (0x17 ≤ k ∧ k < 0x20)) (v : Byte) :
    apu.write p k v = apu := by
  rw [Apu.write, if_neg (by omega), if_neg (by omega), if_pos (by omega)]

/-- With the unit off a write below NR52 that is no length register changes nothing. -/
theorem Apu.write_off_of_not_length (p : Params) {apu : Apu} (hpower : apu.power = false) {k : Nat} (hk : k < 0x16)
    (hlength : lengthChan k = none) (v : Byte) : apu.write p k v = apu := by
  by_cases hunused : k = 0x05 ∨ k = 0x0F
  · exact apu.write_unused p (by omega) v
  · rw [Apu.write_off p hpower hk (by omega) (by omega), Apu.writeOff, hlength]

/-- The byte a write of `v` to a length register stores: with the unit off the duty bits are left out (R346). -/
def lengthByte (power : Bool) (n : Chan) (v : Byte) : Byte :=
  if power then v else if n = .ch1 ∨ n = .ch2 then v &&& 0x3F else v

theorem Apu.writeLengthOff_eq (apu : Apu) (n : Chan) (v : Byte) :
    apu.writeLengthOff n v = (apu.setReg (lengthReg n) (lengthByte false n v)).setLen n (lengthLoad n v) := by
  cases n <;> rfl

/-- A length register takes its byte and the counter its length, with the unit on or off. -/
theorem Apu.write_length (p : Params) (apu : Apu) (n : Chan) (v : Byte) :
    apu.write p (lengthReg n) v = (apu.setReg (lengthReg n) (lengthByte apu.power n v)).setLen n (lengthLoad n v) := by
  have hk : lengthReg n < 0x16 ∧ lengthReg n ≠ 0x05 ∧ lengthReg n ≠ 0x0F := by cases n <;> decide
  cases hpower : apu.power with
  | true =>
    rw [Apu.write_on p hpower hk.1 hk.2.1 hk.2.2]
    cases n <;> rfl
  | false =>
    rw [Apu.write_off p hpower hk.1 hk.2.1 hk.2.2]
    cases n <;> rfl

theorem Apu.write_dac (p : Params) {apu : Apu} (hpower : apu.power = true) (n : Chan) (v : Byte) :
    apu.write p (dacReg n) v = apu.writeDac n v := by
  rw [Apu.write_on p hpower (by cases n <;> decide) (by cases n <;> decide) (by cases n <;> decide)]
  cases n <;> rfl

theorem Apu.write_control (p : Params) {apu : Apu} (hpower : apu.power = true) (n : Chan) (v : Byte) :
    apu.write p (controlReg n) v = apu.writeControl p n v := by
  rw [Apu.write_on p hpower (by cases n <;> decide) (by cases n <;> decide) (by cases n <;> decide)]
  cases n <;> rfl

theorem Apu.writeControl_of_not_trigger (p : Params) (apu : Apu) (n : Chan) {v : Byte} (hv : v.getLsbD 7 = false) :
    apu.writeControl p n v = apu.setReg (controlReg n) v := by
  rw [Apu.writeControl, if_neg (Bool.eq_false_iff.mp hv)]

theorem Apu.writeControl_trigger (p : Params) (apu : Apu) (n : Chan) {v : Byte} (hv : v.getLsbD 7 = true) :
    apu.writeControl p n v = (apu.setReg (controlReg n) v).trigger p n := by
  rw [Apu.writeControl, if_pos hv]

theorem Apu.write_nr10 (p : Params) {apu : Apu} (hpower : apu.power = true) (v : Byte) : apu.write p 0x00 v = apu.writeNr10 v :=
  Apu.write_on p hpower (by decide) (by decide) (by decide) v

/-- The registers of frequency, level and panning only take their byte. -/
theorem Apu.write_plain (p : Params) {apu : Apu} (hpower : apu.power = true) {k : Nat}
    (hk : k ∈ [0x03, 0x08, 0x0C, 0x0D, 0x12, 0x14, 0x15]) (v : Byte) : apu.write p k v = apu.setReg k v := by
  simp only [List.mem_cons, List.not_mem_nil, or_false] at hk
  rw [Apu.write_on p hpower (by omega) (by omega) (by omega)]
  rcases hk with rfl | rfl | rfl | rfl | rfl | rfl | rfl <;> rfl

/-! ### What no write but a trigger changes -/

theorem Apu.writeDac_cacheKept (apu : Apu) (n : Chan) (v : Byte) : apu.CacheKept (apu.writeDac n v) := by
  unfold Apu.writeDac
  dsimp only
  split
  · exact apu.setReg_cacheKept _ v
  · exact (apu.setReg_cacheKept _ v).trans (Apu.setChOn_false_cacheKept _ n)

theorem Apu.writeNr10_cacheKept (apu : Apu) (v : Byte) : apu.CacheKept (apu.writeNr10 v) := by
  unfold Apu.writeNr10
  dsimp only
  split
  · exact (apu.setReg_cacheKept _ v).trans (Apu.setChOn_false_cacheKept _ .ch1)
  · exact apu.setReg_cacheKept _ v

theorem Apu.writeNr52_cacheKept (p : Params) (apu : Apu) (v : Byte) : apu.CacheKept (apu.writeNr52 p v) := by
  unfold Apu.writeNr52
  split
  · exact apu.powerOff_cacheKept p
  · exact apu.setReg_cacheKept _ _
  · exact .refl apu
  · exact .refl apu

theorem Apu.writeLength_cacheKept (apu : Apu) (n : Chan) (v : Byte) : apu.CacheKept (apu.writeLength n v) :=
  (apu.setReg_cacheKept _ v).trans (Apu.setLen_cacheKept _ n _)

theorem Apu.writeLengthOff_cacheKept (apu : Apu) (n : Chan) (v : Byte) : apu.CacheKept (apu.writeLengthOff n v) := by
  rw [apu.writeLengthOff_eq]
  exact (apu.setReg_cacheKept _ _).trans (Apu.setLen_cacheKept _ n _)

/-- A write that is no trigger keeps the cached state and turns no channel on. -/
theorem Apu.write_cacheKept (p : Params) (apu : Apu) (k : Nat) (v : Byte)
    (h : ¬(apu.power = true ∧ (∃ n, k = controlReg n) ∧ v.getLsbD 7 = true)) : apu.CacheKept (apu.write p k v) := by
  unfold Apu.write
  split
  · exact apu.setReg_cacheKept k v
  · split
    · exact apu.writeNr52_cacheKept p v
    · split
      · exact .refl apu
      · split
        next hpower =>
          unfold Apu.writeOn
          split
          · exact apu.writeLength_cacheKept _ v
          · exact apu.writeDac_cacheKept _ v
          next n _ _ hcontrol =>
            have hv : v.getLsbD 7 = false := by
              by_contra hv
              exact h ⟨hpower, ⟨n, (controlReg_of_controlChan hcontrol).symm⟩, by simpa using hv⟩
            rw [apu.writeControl_of_not_trigger p n hv]
            exact apu.setReg_cacheKept _ v
          · split
            · exact apu.writeNr10_cacheKept v
            · exact apu.setReg_cacheKept k v
        · unfold Apu.writeOff
          split
          · exact apu.writeLengthOff_cacheKept _ v
          · exact .refl apu

/-- No write touches the frame sequencer. -/
theorem Apu.write_fs (p : Params) (apu : Apu) (k : Nat) (v : Byte) : (apu.write p k v).fs = apu.fs := by
  by_cases h : apu.power = true ∧ (∃ n, k = controlReg n) ∧ v.getLsbD 7 = true
  · obtain ⟨hpower, ⟨n, rfl⟩, hv⟩ := h
    rw [Apu.write_control p hpower, apu.writeControl_trigger p n hv, Apu.trigger_fs]
    rfl
  · exact (apu.write_cacheKept p k v h).fs

/-! ### The values stored -/

theorem lengthLoad_eq (n : Chan) (v : Byte) : lengthLoad n v = lengthNumber n v.toNat := by
  cases n with
  | ch3 => rfl
  | ch1 | ch2 | ch4 => simp [lengthLoad, lengthNumber]

/-- Bits 7 to 3 are not all zero when the number is at least 8. -/
theorem upper_ne_zero_iff : ∀ v : Byte, v.extractLsb' 3 5 ≠ 0 ↔ 8 ≤ v.toNat := by
  decide

theorem bit7_iff : ∀ v : Byte, v.getLsbD 7 = decide (128 ≤ v.toNat) := by
  decide

/-- The DAC condition of R341 on the number in the channel's register. -/
theorem Apu.dacOn_eq (apu : Apu) (n : Chan) : apu.dacOn n = dacNumber n (apu.reg (dacReg n)).toNat := by
  cases n with
  | ch3 => exact bit7_iff _
  | ch1 | ch2 | ch4 => exact decide_eq_decide.mpr (upper_ne_zero_iff _)

/-- NRn2 and NR30: the channel falls exactly if its new DAC bits are off (R347). -/
theorem Apu.writeDac_eq {apu : Apu} (hwf : Memory.wf .apu apu.regs = true) (n : Chan) (v : Byte) :
    apu.writeDac n v = (apu.setReg (dacReg n) v).setChOn n (apu.chOn n && dacNumber n v.toNat) := by
  have hdac : (apu.setReg (dacReg n) v).dacOn n = dacNumber n v.toNat := by
    rw [Apu.dacOn_eq, Apu.reg_setReg hwf, if_pos rfl]
  rw [Apu.writeDac, hdac]
  cases dacNumber n v.toNat with
  | true => rw [Bool.and_true, ← apu.chOn_setReg n (dacReg n) v, Apu.setChOn_self, if_pos rfl]
  | false => rw [Bool.and_false, if_neg (by decide)]

/-- NR10: channel 1 falls exactly if a subtraction was done and the direction is now addition (R348). -/
theorem Apu.writeNr10_eq (apu : Apu) (v : Byte) :
    apu.writeNr10 v = { apu.setReg 0x00 v with on1 := apu.on1 && !(apu.sweep.negDone && !v.getLsbD 3) } := by
  unfold Apu.writeNr10
  dsimp only
  cases apu.sweep.negDone && !v.getLsbD 3 with
  | true => rw [if_pos rfl, Bool.not_true, Bool.and_false]; rfl
  | false => rw [if_neg (by decide), Bool.not_false, Bool.and_true]; rfl

theorem eq_lengthReg_of_mem {n : Chan} {k : Nat} (h : (n, k) ∈ [(Chan.ch1, 0x01), (.ch2, 0x06), (.ch3, 0x0B), (.ch4, 0x10)]) :
    k = lengthReg n := by
  simp only [List.mem_cons, List.not_mem_nil, or_false, Prod.mk.injEq] at h
  rcases h with ⟨rfl, rfl⟩ | ⟨rfl, rfl⟩ | ⟨rfl, rfl⟩ | ⟨rfl, rfl⟩ <;> rfl

theorem eq_dacReg_of_mem {n : Chan} {k : Nat} (h : (n, k) ∈ [(Chan.ch1, 0x02), (.ch2, 0x07), (.ch3, 0x0A), (.ch4, 0x11)]) :
    k = dacReg n := by
  simp only [List.mem_cons, List.not_mem_nil, or_false, Prod.mk.injEq] at h
  rcases h with ⟨rfl, rfl⟩ | ⟨rfl, rfl⟩ | ⟨rfl, rfl⟩ | ⟨rfl, rfl⟩ <;> rfl

theorem exists_eq_controlReg_of_mem {k : Nat} (h : k ∈ [0x04, 0x09, 0x0E, 0x13]) : ∃ n, k = controlReg n := by
  simp only [List.mem_cons, List.not_mem_nil, or_false] at h
  rcases h with rfl | rfl | rfl | rfl
  exacts [⟨.ch1, rfl⟩, ⟨.ch2, rfl⟩, ⟨.ch3, rfl⟩, ⟨.ch4, rfl⟩]

/-- A length register, with the unit on or off: its counter alone is loaded, and no channel turns on or off. -/
theorem Apu.write_length_spec (p : Params) (apu : Apu) (n : Chan) (v : Byte) :
    (apu.write p (lengthReg n) v).len n = lengthNumber n v.toNat ∧
      (∀ m, m ≠ n → (apu.write p (lengthReg n) v).len m = apu.len m) ∧
      (∀ m, (apu.write p (lengthReg n) v).chOn m = apu.chOn m) ∧
      (apu.write p (lengthReg n) v).regs = (apu.setReg (lengthReg n) (lengthByte apu.power n v)).regs := by
  rw [apu.write_length p n v]
  refine ⟨?_, fun m hm => ?_, fun m => ?_, Apu.setLen_regs _ n _⟩
  · rw [Apu.setLen_len, if_pos rfl, lengthLoad_eq]
  · rw [Apu.setLen_len, if_neg hm, Apu.setReg_len]
  · rw [Apu.setLen_chOn, Apu.chOn_setReg]

/-- Settles O48: each kind of register by the equation of its write. -/
theorem audioRegisterWritesAreGated : Obligations.AudioRegisterWritesAreGated := by
  refine ⟨fun s k v hk => s.store8_audio hk v, fun p apu k v => ⟨?_, fun hno => ?_, fun hoff hk => ⟨fun hnone => ?_, fun n hn => ?_⟩,
    fun hunused => apu.write_unused p hunused v⟩, fun p apu k v hwf => ⟨fun hwave => ?_, fun n hn => ?_, fun hpower =>
    ⟨fun n hn => ?_, fun hk => ?_, fun hk => ?_, fun hk hv => ?_⟩⟩⟩
  · exact apu.write_fs p k v
  · obtain ⟨-, henv1, henv2, henv4, hsweep, hfalls⟩ := apu.write_cacheKept p k v hno
    exact ⟨henv1, henv2, henv4, hsweep, hfalls⟩
  · exact Apu.write_off_of_not_length p hoff hk hnone v
  · obtain rfl := lengthReg_of_lengthChan hn
    obtain ⟨hlen, hothers, hon, -⟩ := apu.write_length_spec p n v
    exact ⟨hlen, hothers, hon, fun j hj => apu.reg_write_other p (by omega) hj v⟩
  · rw [apu.write_wave p hwave]
    exact ⟨rfl, Apu.regStored_of_regs hwf rfl⟩
  · obtain rfl := eq_lengthReg_of_mem hn
    obtain ⟨hlen, hothers, hon, hregs⟩ := apu.write_length_spec p n v
    have hstored := Apu.regStored_of_regs hwf hregs
    refine ⟨hlen, hothers, hon, fun hpower => ?_, fun hpower => ?_⟩
    · simpa only [lengthByte, hpower, if_true] using hstored
    · simpa only [lengthByte, hpower, Bool.false_eq_true, if_false] using hstored
  · obtain rfl := eq_dacReg_of_mem hn
    rw [Apu.write_dac p hpower, Apu.writeDac_eq hwf]
    refine ⟨Apu.regStored_of_regs hwf (Apu.setChOn_regs _ n _), ?_, fun m hm => ?_, fun m => ?_⟩
    · rw [Apu.setChOn_chOn, if_pos rfl]
    · rw [Apu.setChOn_chOn, if_neg hm, Apu.chOn_setReg]
    · rw [Apu.setChOn_len, Apu.setReg_len]
  · subst hk
    rw [Apu.write_nr10 p hpower, Apu.writeNr10_eq]
    exact ⟨Apu.regStored_of_regs hwf rfl, rfl⟩
  · rw [Apu.write_plain p hpower hk]
    exact ⟨rfl, Apu.regStored_of_regs hwf rfl⟩
  · obtain ⟨n, rfl⟩ := exists_eq_controlReg_of_mem hk
    rw [Apu.write_control p hpower, apu.writeControl_of_not_trigger p n hv]
    exact ⟨rfl, Apu.regStored_of_regs hwf rfl⟩

end Sys2Proof.Machine

/-! ## The trigger (O49) -/

namespace Sys2Proof.Machine

/-! ### The fields of NR10, NR13 and NR14 as numbers (R341) -/

theorem Apu.sweepShift_eq (apu : Apu) : apu.sweepShift = (apu.reg 0x00).toNat % 8 := by
  simp [Apu.sweepShift]

theorem Apu.sweepPace_eq (apu : Apu) : apu.sweepPace = (apu.reg 0x00).toNat / 16 % 8 := by
  simp [Apu.sweepPace, Nat.shiftRight_eq_div_pow]

theorem Apu.frequency1_eq (apu : Apu) : apu.frequency1 = (apu.reg 0x04).toNat % 8 * 256 + (apu.reg 0x03).toNat := by
  rw [Apu.frequency1, toNat_append_eq_add]
  simp

/-- Only an addition overflows (R355). -/
theorem Apu.sweepOverflow_eq (apu : Apu) :
    apu.sweepOverflow = (!apu.sweepDown && decide (2047 < apu.sweep.freq + apu.sweep.freq / 2 ^ apu.sweepShift)) := by
  rw [Apu.sweepOverflow, Apu.sweepNew, Nat.shiftRight_eq_div_pow]
  cases apu.sweepDown <;> rfl

/-- The envelope loaded, on the number in NRn2 (R350 step 2). -/
theorem Envelope.load_loadedFrom (v : Byte) : (Envelope.load v).LoadedFrom v.toNat where
  pace := by simp [Envelope.load]
  cnt := by simp [Envelope.load]
  up := getLsbD_eq_decide v 3
  vol := by simp [Envelope.load, Nat.shiftRight_eq_div_pow]; omega

/-! ### What a trigger leaves in each field -/

/-- The immediate check of channel 1 finds an overflow (R350 step 5). -/
def Apu.overflowsAtOnce (apu : Apu) (n : Chan) : Bool :=
  decide (n = .ch1) && (decide (apu.sweepShift ≠ 0) && !apu.sweepDown &&
    decide (2047 < apu.frequency1 + apu.frequency1 / 2 ^ apu.sweepShift))

/-- The sweep that a trigger of channel 1 leaves, its immediate check included. -/
def Apu.triggeredSweep (apu : Apu) : Sweep :=
  { apu.loadedSweep with negDone := decide (apu.sweepShift ≠ 0) && apu.sweepDown }

/-- The trigger of channel 1 with its immediate check carried out. -/
theorem Apu.trigger_ch1_eq (p : Params) (apu : Apu) :
    apu.trigger p .ch1 =
      { apu with
        len1 := apu.triggeredLen p .ch1
        env1 := Envelope.load (apu.reg 0x02)
        sweep := apu.triggeredSweep
        on1 := apu.dacOn .ch1 && !apu.overflowsAtOnce .ch1 } := by
  rw [apu.trigger_ch1, Apu.triggerCheck_ch1, Apu.sweepOverflow_eq, ← Bool.and_assoc]
  rfl

theorem Apu.trigger_chOn (p : Params) (apu : Apu) (n m : Chan) :
    (apu.trigger p n).chOn m = if m = n then apu.dacOn n && !apu.overflowsAtOnce n else apu.chOn m := by
  cases n with
  | ch1 => rw [apu.trigger_ch1_eq]; cases m <;> rfl
  | ch2 => rw [apu.trigger_ch2]; cases m <;> simp [Apu.chOn, Apu.overflowsAtOnce]
  | ch3 => rw [apu.trigger_ch3]; cases m <;> simp [Apu.chOn, Apu.overflowsAtOnce]
  | ch4 => rw [apu.trigger_ch4]; cases m <;> simp [Apu.chOn, Apu.overflowsAtOnce]

theorem Apu.trigger_len (p : Params) (apu : Apu) (n m : Chan) :
    (apu.trigger p n).len m = if m = n then apu.triggeredLen p n else apu.len m := by
  cases n with
  | ch1 => rw [apu.trigger_ch1_eq]; cases m <;> rfl
  | ch2 => rw [apu.trigger_ch2]; cases m <;> rfl
  | ch3 => rw [apu.trigger_ch3]; cases m <;> rfl
  | ch4 => rw [apu.trigger_ch4]; cases m <;> rfl

/-- A trigger loads the envelope of its own channel, and the sweep if that is channel 1. -/
theorem Apu.trigger_loads (p : Params) (apu : Apu) (n : Chan) :
    (apu.trigger p n).env1 = (if n = .ch1 then Envelope.load (apu.reg 0x02) else apu.env1) ∧
      (apu.trigger p n).env2 = (if n = .ch2 then Envelope.load (apu.reg 0x07) else apu.env2) ∧
      (apu.trigger p n).env4 = (if n = .ch4 then Envelope.load (apu.reg 0x11) else apu.env4) ∧
      (apu.trigger p n).sweep = if n = .ch1 then apu.triggeredSweep else apu.sweep := by
  cases n with
  | ch1 => rw [apu.trigger_ch1_eq]; exact ⟨rfl, rfl, rfl, rfl⟩
  | ch2 => rw [apu.trigger_ch2]; exact ⟨rfl, rfl, rfl, rfl⟩
  | ch3 => rw [apu.trigger_ch3]; exact ⟨rfl, rfl, rfl, rfl⟩
  | ch4 => rw [apu.trigger_ch4]; exact ⟨rfl, rfl, rfl, rfl⟩

theorem lengthReg_ne_controlReg (n m : Chan) : lengthReg n ≠ controlReg m := by
  cases n <;> cases m <;> decide

/-- The length reload on the byte written to NRn4 and the number in NRn1 (R350 step 1). -/
theorem Apu.triggeredLen_setReg (p : Params) {apu : Apu} (hwf : Memory.wf .apu apu.regs = true) (n : Chan) (v : Byte) :
    (apu.setReg (controlReg n) v).triggeredLen p n =
      if apu.len n = 0 ∧ v.getLsbD 6 = true ∧ p.lenReloadAlign.getLsbD apu.fs = true then
        lengthNumber n (apu.reg (lengthReg n)).toNat
      else apu.len n := by
  have henabled : (apu.setReg (controlReg n) v).lengthEnabled n = v.getLsbD 6 := by
    rw [Apu.lengthEnabled, Apu.reg_setReg hwf, if_pos rfl]
  rw [Apu.triggeredLen, henabled, Apu.setReg_len, apu.reg_setReg_other v (lengthReg_ne_controlReg n n), lengthLoad_eq]
  rfl

/-- Settles O49: NRn4 takes its byte, then the trigger loads from the registers. -/
theorem triggerObeysTheDac : Obligations.TriggerObeysTheDac := by
  intro p apu n v hwf hpower hv t freq shift pace
  have hreg0 : (apu.setReg (controlReg n) v).reg 0x00 = apu.reg 0x00 := apu.reg_setReg_other v (by cases n <;> decide)
  have hother {k : Nat} (hk : k ∈ [0x02, 0x03, 0x07, 0x11]) : (apu.setReg (controlReg n) v).reg k = apu.reg k :=
    apu.reg_setReg_other v (by revert k; cases n <;> decide)
  have hdac : (apu.setReg (controlReg n) v).dacOn n = apu.dacOn n := apu.dacOn_setReg_other v (dacReg_ne_controlReg n n)
  have hshift : (apu.setReg (controlReg n) v).sweepShift = shift := by rw [Apu.sweepShift_eq, hreg0]
  have hpace : (apu.setReg (controlReg n) v).sweepPace = pace := by rw [Apu.sweepPace_eq, hreg0]
  have hdown : (apu.setReg (controlReg n) v).sweepDown = (apu.reg 0x00).getLsbD 3 := by rw [Apu.sweepDown, hreg0]
  have hfreq : n = .ch1 → (apu.setReg (controlReg n) v).frequency1 = freq := by
    rintro rfl
    have hreg4 : (apu.setReg (controlReg .ch1) v).reg 0x04 = v := (Apu.regStored_of_regs hwf rfl).reg
    rw [Apu.frequency1_eq, hother (k := 0x03) (by decide), hreg4]
  have ht : t = (apu.setReg (controlReg n) v).trigger p n := by
    rw [← apu.writeControl_trigger p n hv, ← Apu.write_control p hpower]
  have hon : t.chOn n = (apu.dacOn n && !(apu.setReg (controlReg n) v).overflowsAtOnce n) := by
    rw [ht, Apu.trigger_chOn, if_pos rfl, hdac]
  obtain ⟨henv1, henv2, henv4, hsweep⟩ := (apu.setReg (controlReg n) v).trigger_loads p n
  rw [← ht, hother (by decide)] at henv1 henv2 henv4
  rw [← ht] at hsweep
  refine ⟨fun hoff => ?_, fun hdacOn hn => ?_, fun hdacOn hn => ?_, fun m hm => ?_, ?_, fun m hm => ?_, fun hn => ?_, fun hn => ?_,
    fun hn => ?_, fun hn => ?_, fun hn => ?_, fun hn => ?_, fun hn => ?_, fun hn => ?_, ?_, ?_⟩
  · rw [hon, hoff, Bool.false_and]
  · rw [hon, hdacOn, Apu.overflowsAtOnce, decide_eq_false hn]
    rfl
  · rw [← hn, hon, hdacOn, Apu.overflowsAtOnce, decide_eq_true hn, hshift, hdown, hfreq hn]
    rfl
  · rw [ht, Apu.trigger_chOn, if_neg hm, Apu.chOn_setReg]
  · rw [ht, Apu.trigger_len, if_pos rfl, Apu.triggeredLen_setReg p hwf]
    cases n <;> rfl
  · rw [ht, Apu.trigger_len, if_neg hm, Apu.setReg_len]
  · rw [henv1, if_pos hn]
    exact Envelope.load_loadedFrom _
  · rw [henv1, if_neg hn]
    rfl
  · rw [henv2, if_pos hn]
    exact Envelope.load_loadedFrom _
  · rw [henv2, if_neg hn]
    rfl
  · rw [henv4, if_pos hn]
    exact Envelope.load_loadedFrom _
  · rw [henv4, if_neg hn]
    rfl
  · rw [hsweep, if_pos hn, Apu.triggeredSweep, Apu.loadedSweep, hpace, hshift, hdown, hfreq hn, ite_not]
    exact ⟨rfl, rfl, rfl, rfl, rfl⟩
  · rw [hsweep, if_neg hn]
    rfl
  · exact apu.write_fs p _ v
  · exact Apu.regStored_of_regs hwf (ht ▸ Apu.trigger_regs p _ n)

end Sys2Proof.Machine

/-! ## The sweep (O51) -/

namespace Sys2Proof.Machine

theorem Apu.recordNegate_eq (apu : Apu) :
    apu.recordNegate = { apu with sweep := { apu.sweep with negDone := apu.sweep.negDone || apu.sweepDown } } := by
  unfold Apu.recordNegate
  cases hdown : apu.sweepDown <;> simp

/-- The write-back changes the frequency and the registers. -/
theorem Apu.writeBackFrequency_eq (apu : Apu) (new : Nat) :
    apu.writeBackFrequency new =
      { apu with sweep := { apu.sweep with freq := new }, regs := (apu.writeBackFrequency new).regs } := rfl

theorem Apu.writeBackFrequency_regs (apu : Apu) (new : Nat) :
    (apu.writeBackFrequency new).regs =
      ((apu.setReg 0x03 ((BitVec.ofNat 11 new).extractLsb' 0 8)).setReg 0x04
        ((apu.reg 0x04).extractLsb' 3 5 ++ (BitVec.ofNat 11 new).extractLsb' 8 3)).regs := by
  rw [← apu.reg_setReg_other (k := 0x03) ((BitVec.ofNat 11 new).extractLsb' 0 8) (by decide)]
  rfl

/-- The write-back of R354 on numbers: NR13 takes the low byte, NR14 bits 10 to 8 and keeps its upper five bits. -/
theorem Apu.writeBackFrequency_reg {apu : Apu} (hwf : Memory.wf .apu apu.regs = true) (new : Nat) :
    ((apu.writeBackFrequency new).reg 0x03).toNat = new % 256 ∧
      ((apu.writeBackFrequency new).reg 0x04).toNat = (apu.reg 0x04).toNat / 8 * 8 + new / 256 % 8 ∧
      ∀ k, k ≠ 0x03 → k ≠ 0x04 → (apu.writeBackFrequency new).reg k = apu.reg k := by
  obtain ⟨hlow, hlowOthers⟩ := Apu.regStored_of_regs hwf (k := 0x03) (v := (BitVec.ofNat 11 new).extractLsb' 0 8) rfl
  have hwfLow : Memory.wf .apu (apu.setReg 0x03 ((BitVec.ofNat 11 new).extractLsb' 0 8)).regs = true :=
    Memory.wf_write (k := 0x03) _ hwf (by decide)
  obtain ⟨hhigh, hothers⟩ := Apu.regStored_of_regs hwfLow (apu.writeBackFrequency_regs new)
  refine ⟨?_, ?_, fun k h3 h4 => (hothers k h4).trans (hlowOthers k h3)⟩
  · rw [hothers 0x03 (by decide), hlow]
    simp
  · rw [hhigh, toNat_append_eq_add]
    simp [Nat.shiftRight_eq_div_pow]
    omega

/-- The tick changes the sweep, the registers and the status of channel 1, which it does not turn on. -/
theorem Apu.sweepTick_frame (apu : Apu) :
    ∃ on sweep regs, apu.sweepTick = { apu with on1 := on, sweep := sweep, regs := regs } ∧ (on = true → apu.on1 = true) := by
  unfold Apu.sweepTick Apu.sweepStep
  simp only [Apu.recordNegate_eq]
  split
  · split
    · split
      · split
        · exact ⟨_, _, _, rfl, nofun⟩
        · split
          · exact ⟨_, _, _, Apu.writeBackFrequency_eq _ _, id⟩
          · exact ⟨_, _, _, rfl, id⟩
      · exact ⟨_, _, _, rfl, id⟩
    · exact ⟨_, _, _, rfl, id⟩
  · exact ⟨_, _, _, rfl, id⟩

section due

variable {apu : Apu} (hen : apu.sweep.en = true) (hon : apu.on1 = true)
include hen hon

theorem Apu.sweepTick_counting (hcnt : 1 < apu.sweep.cnt) :
    apu.sweepTick = { apu with sweep := { apu.sweep with cnt := apu.sweep.cnt - 1 } } := by
  rw [Apu.sweepTick, if_pos (by rw [hen, hon]; rfl)]
  exact if_neg (by dsimp only; omega)

theorem Apu.sweepTick_paceZero (hcnt : apu.sweep.cnt ≤ 1) (hpace : apu.sweepPace = 0) :
    apu.sweepTick = { apu with sweep := { apu.sweep with cnt := 8 } } := by
  rw [Apu.sweepTick, if_pos (by rw [hen, hon]; rfl)]
  dsimp only
  rw [if_pos (by omega)]
  exact if_neg (not_not.mpr hpace)

/-- At the end of the countdown with a live pace the sweep step is made (R354). -/
theorem Apu.sweepTick_due (hcnt : apu.sweep.cnt ≤ 1) (hpace : apu.sweepPace ≠ 0) :
    apu.sweepTick = apu.sweepStep apu.sweepPace := by
  rw [Apu.sweepTick, if_pos (by rw [hen, hon]; rfl)]
  dsimp only
  rw [if_pos (by omega)]
  exact if_pos hpace

end due

/-- The sweep with a pace loaded and the negation recorded. -/
def Apu.steppedSweep (apu : Apu) (pace : Nat) : Sweep :=
  { apu.sweep with pace := pace, cnt := pace, negDone := apu.sweep.negDone || apu.sweepDown }

/-- The sweep step by its three ends: an overflow, a new frequency, or a shift of 0 (R354). -/
theorem Apu.sweepStep_eq (apu : Apu) (pace : Nat) :
    apu.sweepStep pace =
      if apu.sweepOverflow then { apu with sweep := apu.steppedSweep pace, on1 := false }
      else if apu.sweepShift ≠ 0 then ({ apu with sweep := apu.steppedSweep pace } : Apu).writeBackFrequency apu.sweepNew
      else { apu with sweep := apu.steppedSweep pace } := by
  unfold Apu.sweepStep
  simp only [Apu.recordNegate_eq]
  rfl

/-- Settles O51: disabled, counting, pace 0, overflow and a step within range exclude each other. -/
theorem sweepTickFollowsTheLiveRegister : Obligations.SweepTickFollowsTheLiveRegister := by
  intro apu hwf pace shift down new
  have hpaceEq : apu.sweepPace = pace := apu.sweepPace_eq
  have hshiftEq : apu.sweepShift = shift := apu.sweepShift_eq
  have hnewEq : apu.sweepNew = new := by
    rw [Apu.sweepNew, Nat.shiftRight_eq_div_pow, hshiftEq]
    rfl
  have hovfEq : apu.sweepOverflow = (!down && decide (2047 < new)) := by
    rw [Apu.sweepOverflow, hnewEq]
    rfl
  refine ⟨fun hoff => if_neg (by simpa using hoff), Apu.sweepTick_counting, fun hen hon hcnt hpace =>
    Apu.sweepTick_paceZero hen hon hcnt (hpaceEq.trans hpace), fun hen hon hcnt hpace => ?_⟩
  have htick := Apu.sweepTick_due hen hon hcnt (hpaceEq ▸ hpace)
  rw [apu.sweepStep_eq, hpaceEq, hovfEq, hnewEq, hshiftEq] at htick
  obtain ⟨on, sweep, regs, hframe, -⟩ := apu.sweepTick_frame
  refine ⟨by rw [hframe], ?_⟩
  by_cases hovf : down = false ∧ 2047 < new
  · obtain ⟨hadd, hover⟩ := hovf
    rw [hadd, decide_eq_true hover, if_pos (by rfl)] at htick
    rw [htick]
    refine ⟨rfl, rfl, hen, rfl, fun _ _ => ⟨rfl, rfl, rfl⟩, fun hin => ?_⟩
    rcases hin with hsub | hle
    · cases hadd.symm.trans hsub
    · omega
  · have hno : (!down && decide (2047 < new)) = false := by simpa using hovf
    rw [hno, if_neg (by decide)] at htick
    by_cases hshift : shift = 0
    · rw [if_neg (not_not.mpr hshift)] at htick
      rw [htick]
      exact ⟨rfl, rfl, hen, rfl, fun hadd hover => absurd ⟨hadd, hover⟩ hovf,
        fun _ => ⟨hon, fun _ => ⟨rfl, rfl⟩, fun hne => absurd hshift hne⟩⟩
    · rw [if_pos hshift] at htick
      rw [htick]
      obtain ⟨hlow, hhigh, hothers⟩ :=
        Apu.writeBackFrequency_reg (apu := { apu with sweep := apu.steppedSweep pace }) hwf new
      exact ⟨rfl, rfl, hen, rfl, fun hadd hover => absurd ⟨hadd, hover⟩ hovf,
        fun _ => ⟨hon, fun hzero => absurd hzero hshift, fun _ => ⟨rfl, hlow, hhigh, hothers⟩⟩⟩

end Sys2Proof.Machine

/-! ## The frame sequencer (O50) -/

namespace Sys2Proof.Machine

/-! ### The length tick (R353) -/

/-- The length that a tick leaves a channel. -/
def Apu.tickedLen (apu : Apu) (n : Chan) : Nat :=
  if apu.lengthEnabled n then min (apu.len n + 1) (lenMax n) else apu.len n

/-- The status that a tick leaves a channel: off if its length is counted and stands at its maximum. -/
def Apu.tickedOn (apu : Apu) (n : Chan) : Bool :=
  apu.chOn n && !(apu.lengthEnabled n && decide (apu.tickedLen n = lenMax n))

theorem Apu.lengthTickOf_eq {apu : Apu} {n : Chan} (h : apu.len n ≤ lenMax n) :
    apu.lengthTickOf n = (apu.setLen n (apu.tickedLen n)).setChOn n (apu.tickedOn n) := by
  have hself : ∀ x, (apu.setLen n x).setChOn n (apu.chOn n) = apu.setLen n x := fun x => by
    rw [← apu.setLen_chOn n n x, Apu.setChOn_self]
  unfold Apu.lengthTickOf Apu.tickedOn Apu.tickedLen
  cases apu.lengthEnabled n with
  | false => simp [Apu.setLen_self, Apu.setChOn_self]
  | true =>
    have hcounted : (if apu.len n < lenMax n then apu.setLen n (apu.len n + 1) else apu) =
        apu.setLen n (min (apu.len n + 1) (lenMax n)) := by
      split
      · rw [min_eq_left (by omega)]
      · rw [min_eq_right (by omega), show lenMax n = apu.len n by omega, Apu.setLen_self]
    simp only [if_true, hcounted, Apu.setLen_len, Bool.true_and]
    by_cases hmax : min (apu.len n + 1) (lenMax n) = lenMax n
    · rw [if_pos hmax, decide_eq_true hmax, Bool.not_true, Bool.and_false]
    · rw [if_neg hmax, decide_eq_false hmax, Bool.not_false, Bool.and_true, hself]

/-- The tick of each channel reads its own length and the registers, which the ticks before it leave. -/
theorem Apu.lengthTick_eq {apu : Apu} (h : ∀ n, apu.len n ≤ lenMax n) :
    apu.lengthTick =
      { apu with
        len1 := apu.tickedLen .ch1, len2 := apu.tickedLen .ch2, len3 := apu.tickedLen .ch3, len4 := apu.tickedLen .ch4
        on1 := apu.tickedOn .ch1, on2 := apu.tickedOn .ch2, on3 := apu.tickedOn .ch3, on4 := apu.tickedOn .ch4 } := by
  rw [Apu.lengthTick, Apu.lengthTickOf_eq (h .ch1), Apu.lengthTickOf_eq (n := .ch2), Apu.lengthTickOf_eq (n := .ch3),
    Apu.lengthTickOf_eq (n := .ch4)]
  · rfl
  · exact h .ch4
  · exact h .ch3
  · exact h .ch2

/-! ### The step by its phase (R352) -/

/-- The phase of the next step. -/
def Apu.nextPhase (apu : Apu) : Nat := (apu.fs + 1) % 8

/-- The unit after the counter and the length tick of a step. -/
def Apu.afterLengths (apu : Apu) : Apu :=
  if apu.nextPhase % 2 = 0 then ({ apu with fs := apu.nextPhase } : Apu).lengthTick else { apu with fs := apu.nextPhase }

theorem Apu.afterLengths_even {apu : Apu} (h : ∀ n, apu.len n ≤ lenMax n) (heven : apu.nextPhase % 2 = 0) :
    apu.afterLengths =
      { apu with
        fs := apu.nextPhase
        len1 := apu.tickedLen .ch1, len2 := apu.tickedLen .ch2, len3 := apu.tickedLen .ch3, len4 := apu.tickedLen .ch4
        on1 := apu.tickedOn .ch1, on2 := apu.tickedOn .ch2, on3 := apu.tickedOn .ch3, on4 := apu.tickedOn .ch4 } := by
  rw [Apu.afterLengths, if_pos heven, Apu.lengthTick_eq (apu := { apu with fs := apu.nextPhase }) h]
  rfl

theorem Apu.afterLengths_odd {apu : Apu} (hodd : ¬apu.nextPhase % 2 = 0) : apu.afterLengths = { apu with fs := apu.nextPhase } :=
  if_neg hodd

/-- The counter and the length tick leave everything but the phase, the lengths and the status bits. -/
theorem Apu.afterLengths_frame {apu : Apu} (h : ∀ n, apu.len n ≤ lenMax n) :
    apu.afterLengths.fs = apu.nextPhase ∧ apu.afterLengths.regs = apu.regs ∧ apu.afterLengths.sweep = apu.sweep ∧
      apu.afterLengths.env1 = apu.env1 ∧ apu.afterLengths.env2 = apu.env2 ∧ apu.afterLengths.env4 = apu.env4 := by
  by_cases heven : apu.nextPhase % 2 = 0
  · rw [Apu.afterLengths_even h heven]
    exact ⟨rfl, rfl, rfl, rfl, rfl, rfl⟩
  · rw [Apu.afterLengths_odd heven]
    exact ⟨rfl, rfl, rfl, rfl, rfl, rfl⟩

theorem Apu.afterLengths_len {apu : Apu} (h : ∀ n, apu.len n ≤ lenMax n) (n : Chan) :
    apu.afterLengths.len n = if apu.nextPhase % 2 = 0 then apu.tickedLen n else apu.len n := by
  split
  next heven => rw [Apu.afterLengths_even h heven]; cases n <;> rfl
  next hodd => rw [Apu.afterLengths_odd hodd]; cases n <;> rfl

theorem Apu.afterLengths_chOn {apu : Apu} (h : ∀ n, apu.len n ≤ lenMax n) (n : Chan) :
    apu.afterLengths.chOn n = if apu.nextPhase % 2 = 0 then apu.tickedOn n else apu.chOn n := by
  split
  next heven => rw [Apu.afterLengths_even h heven]; cases n <;> rfl
  next hodd => rw [Apu.afterLengths_odd hodd]; cases n <;> rfl

theorem Apu.step_eq (apu : Apu) :
    apu.step =
      if apu.nextPhase = 7 then
        (if apu.nextPhase = 2 ∨ apu.nextPhase = 6 then apu.afterLengths.sweepTick else apu.afterLengths).envelopeTick
      else if apu.nextPhase = 2 ∨ apu.nextPhase = 6 then apu.afterLengths.sweepTick
      else apu.afterLengths := rfl

theorem Apu.step_of_sweep {apu : Apu} (h : apu.nextPhase = 2 ∨ apu.nextPhase = 6) : apu.step = apu.afterLengths.sweepTick := by
  rw [apu.step_eq, if_neg (by omega), if_pos h]

theorem Apu.step_of_envelope {apu : Apu} (h : apu.nextPhase = 7) : apu.step = apu.afterLengths.envelopeTick := by
  rw [apu.step_eq, if_pos h, if_neg (by omega)]

theorem Apu.step_of_other {apu : Apu} (hsweep : ¬(apu.nextPhase = 2 ∨ apu.nextPhase = 6)) (henv : apu.nextPhase ≠ 7) :
    apu.step = apu.afterLengths := by
  rw [apu.step_eq, if_neg henv, if_neg hsweep]

/-- After the length tick a step keeps the phase and the lengths, and turns no channel on. -/
theorem Apu.step_kept (apu : Apu) :
    apu.step.fs = apu.afterLengths.fs ∧ (∀ n, apu.step.len n = apu.afterLengths.len n) ∧
      ∀ n, apu.step.chOn n = true → apu.afterLengths.chOn n = true := by
  by_cases hsweep : apu.nextPhase = 2 ∨ apu.nextPhase = 6
  · obtain ⟨on, sweep, regs, htick, hfalls⟩ := apu.afterLengths.sweepTick_frame
    rw [Apu.step_of_sweep hsweep, htick]
    refine ⟨rfl, fun n => by cases n <;> rfl, fun n hn => ?_⟩
    cases n with
    | ch1 => exact hfalls hn
    | ch2 | ch3 | ch4 => exact hn
  · by_cases henv : apu.nextPhase = 7
    · rw [Apu.step_of_envelope henv]
      exact ⟨rfl, fun n => by cases n <;> rfl, fun n hn => by cases n <;> exact hn⟩
    · rw [Apu.step_of_other hsweep henv]
      exact ⟨rfl, fun _ => rfl, fun _ => id⟩

/-- Off the sweep phases a step keeps the sweep, the registers and, after the length tick, the status bits. -/
theorem Apu.step_of_not_sweep {apu : Apu} (h : ¬(apu.nextPhase = 2 ∨ apu.nextPhase = 6)) :
    apu.step.sweep = apu.afterLengths.sweep ∧ apu.step.regs = apu.afterLengths.regs ∧
      ∀ n, apu.step.chOn n = apu.afterLengths.chOn n := by
  by_cases henv : apu.nextPhase = 7
  · rw [Apu.step_of_envelope henv]
    exact ⟨rfl, rfl, fun n => by cases n <;> rfl⟩
  · rw [Apu.step_of_other h henv]
    exact ⟨rfl, rfl, fun _ => rfl⟩

/-- Off phase 7 a step keeps the envelopes. -/
theorem Apu.step_of_not_envelope {apu : Apu} (h : apu.nextPhase ≠ 7) :
    apu.step.env1 = apu.afterLengths.env1 ∧ apu.step.env2 = apu.afterLengths.env2 ∧ apu.step.env4 = apu.afterLengths.env4 := by
  by_cases hsweep : apu.nextPhase = 2 ∨ apu.nextPhase = 6
  · obtain ⟨on, sweep, regs, htick, -⟩ := apu.afterLengths.sweepTick_frame
    rw [Apu.step_of_sweep hsweep, htick]
    exact ⟨rfl, rfl, rfl⟩
  · rw [Apu.step_of_other hsweep h]
    exact ⟨rfl, rfl, rfl⟩

/-- The envelope of a channel that is on ticks (R356). -/
theorem Envelope.ticksTo (on : Bool) (e : Envelope) : Envelope.TicksTo on e (if on then e.tick else e) where
  off hoff := by rw [hoff]; rfl
  counting hon hcnt := by
    rw [hon, if_pos rfl, Envelope.tick, if_neg (by omega)]
  sentinel hon hcnt hpace := by
    rw [hon, if_pos rfl, Envelope.tick, if_pos (by omega), if_neg (not_not.mpr hpace)]
  moving hon hcnt hpace := by
    rw [hon, if_pos rfl, Envelope.tick, if_pos (by omega), if_pos hpace]

/-- Settles O50: the unit after the length tick is the state between, and the phase tells what follows it. -/
theorem frameSequencerPhases : Obligations.FrameSequencerPhases := by
  intro apu _ hlen phase
  obtain ⟨hfs, hregs, hsweep, henv1, henv2, henv4⟩ := Apu.afterLengths_frame hlen
  obtain ⟨hstepFs, hstepLen, hfalls⟩ := apu.step_kept
  have hphase : apu.nextPhase = phase := rfl
  have hl (n : Chan) : apu.afterLengths.len n = if phase % 2 = 0 then apu.tickedLen n else apu.len n :=
    Apu.afterLengths_len hlen n
  have hon (n : Chan) : apu.afterLengths.chOn n = if phase % 2 = 0 then apu.tickedOn n else apu.chOn n :=
    Apu.afterLengths_chOn hlen n
  refine ⟨hstepFs.trans hfs, fun heven n => ⟨?_, fun henabled hmax => ?_⟩, fun hodd n => ⟨?_, ?_⟩,
    ⟨apu.afterLengths, hfs, hregs, hsweep, henv1, henv2, henv4, fun n => ?_, fun n => ?_, Apu.step_of_sweep,
      fun h2 h6 => Apu.step_of_other (not_or.mpr ⟨h2, h6⟩), fun h7 => ?_⟩, fun h2 h6 => ?_, fun h7 => ?_, fun h7 => ?_⟩
  · exact (hstepLen n).trans ((hl n).trans (if_pos heven))
  · have hticked : apu.tickedLen n = lenMax n := by rw [← hmax, hstepLen, hl, if_pos heven]
    have hoff : apu.afterLengths.chOn n = false := by
      rw [hon, if_pos heven, Apu.tickedOn, henabled, decide_eq_true hticked]
      exact Bool.and_false _
    exact Bool.eq_false_iff.mpr fun hn => Bool.eq_false_iff.mp hoff (hfalls n hn)
  · exact (hstepLen n).trans ((hl n).trans (if_neg (by omega)))
  · obtain ⟨-, -, hstepOn⟩ := Apu.step_of_not_sweep (apu := apu) (by omega)
    exact (hstepOn n).trans ((hon n).trans (if_neg (by omega)))
  · rw [hl, ite_and]
    rfl
  · by_cases heven : phase % 2 = 0
    · rw [hon, if_pos heven, hl, if_pos heven, decide_eq_true heven, Bool.true_and]
      rfl
    · rw [hon, if_neg heven, decide_eq_false heven, Bool.false_and, Bool.false_and, Bool.not_false, Bool.and_true]
  · rw [Apu.step_of_envelope h7]
    rfl
  · obtain ⟨hstepSweep, hstepRegs, -⟩ := Apu.step_of_not_sweep (not_or.mpr ⟨h2, h6⟩)
    exact ⟨hstepSweep.trans hsweep, hstepRegs.trans hregs⟩
  · obtain ⟨hstep1, hstep2, hstep4⟩ := Apu.step_of_not_envelope h7
    exact ⟨hstep1.trans henv1, hstep2.trans henv2, hstep4.trans henv4⟩
  · have hodd : ¬phase % 2 = 0 := by omega
    have hon1 : apu.afterLengths.on1 = apu.on1 := (hon .ch1).trans (if_neg hodd)
    have hon2 : apu.afterLengths.on2 = apu.on2 := (hon .ch2).trans (if_neg hodd)
    have hon4 : apu.afterLengths.on4 = apu.on4 := (hon .ch4).trans (if_neg hodd)
    rw [Apu.step_of_envelope h7, Apu.envelopeTick, hon1, hon2, hon4, henv1, henv2, henv4]
    exact ⟨Envelope.ticksTo _ _, Envelope.ticksTo _ _, Envelope.ticksTo _ _⟩

end Sys2Proof.Machine

/-! ## `reset()` (O54)

R400 and R401: what `reset()` assigns is constant, what it keeps is storage, and power-on ends with it. -/

namespace Sys2Proof.Machine

theorem Memory.lookup_filter_kept {m : Memory} {f : Host.Cell → Bool} {k : Nat} (hk : ∀ v, f (k, v) = true) :
    Memory.lookup (m.filter f) k = Memory.lookup m k := by
  induction m with
  | nil => rfl
  | cons cell rest ih =>
    obtain ⟨j, v⟩ := cell
    by_cases hjk : j = k
    · subst hjk
      simp [hk v, Memory.lookup]
    · rw [List.filter_cons]
      split
      · simpa [Memory.lookup, hjk] using ih
      · simpa [Memory.lookup, hjk] using ih

/-- The wave pattern memory is not touched (R400). -/
theorem Apu.resetUnit_reg_wave (p : Params) (apu : Apu) {k : Nat} (hk : 0x20 ≤ k) : (apu.resetUnit p).reg k = apu.reg k := by
  have hkept : Memory.lookup (apu.resetUnit p).regs k = Memory.lookup apu.regs k :=
    Memory.lookup_filter_kept fun _ => decide_eq_true hk
  rw [Apu.reg, Apu.reg, Memory.read, Memory.read, hkept]

theorem Apu.reset_reg (k : Nat) : Apu.reset.reg k = apuReset k := rfl

theorem Apu.resetUnit_idem (p : Params) (apu : Apu) : (apu.resetUnit p).resetUnit p = apu.resetUnit p := by
  simp only [Apu.resetUnit, List.filter_filter, Bool.and_self]

theorem Cart.resetMapper_romOnly {cart : Cart} (h : cart.kind = .romOnly) : cart.resetMapper = cart := by
  rw [Cart.resetMapper, h]

theorem Cart.resetMapper_mbc1 {cart : Cart} (h : cart.kind = .mbc1) :
    cart.resetMapper = { cart with mode := .mode16x8, ramEnable := false, romBank := 1 } := by
  rw [Cart.resetMapper, h]

theorem Cart.resetMapper_idem (cart : Cart) : cart.resetMapper.resetMapper = cart.resetMapper := by
  cases h : cart.kind with
  | romOnly => rw [Cart.resetMapper_romOnly h, Cart.resetMapper_romOnly h]
  | mbc1 =>
    rw [Cart.resetMapper_mbc1 h]
    exact Cart.resetMapper_mbc1 h

/-- R401: every assignment of `reset()` is a constant or keeps what a second `reset()` keeps again. -/
theorem State.hostReset_idem (s : State) : s.hostReset.hostReset = s.hostReset := by
  simp only [State.hostReset, Apu.resetUnit_idem, Cart.resetMapper_idem]

/-- R401: power-on is `reset()` of a state that holds the parameters and the power-on contents. -/
theorem powerOn_eq_hostReset {image : List Byte} {ram : RamInit} {p : Params} {t : State} (h : powerOn image ram p = .next t) :
    ∃ s : State, t = s.hostReset ∧ s.params = p ∧ s.vram = ram.vram ∧ s.wram = ram.wram ∧ s.oam = ram.oam ∧ s.hram = ram.hram ∧
      s.apu.regs = ram.wave := by
  unfold powerOn at h
  split at h
  · cases h
  next cart _ =>
    cases h
    exact ⟨_, rfl, rfl, rfl, rfl, rfl, rfl, rfl⟩

/-- Settles O54: the fields `reset()` assigns and those it keeps, the audio registers on either side of 0x20, the mapper by its
kind; power-on ends in such a reset. -/
theorem hostResetIsIdempotentAndKeepsStorage : Obligations.HostResetIsIdempotentAndKeepsStorage := by
  intro s
  refine ⟨s.hostReset_idem, fun r => by cases r <;> rfl, rfl, rfl, rfl, rfl, rfl, rfl, rfl, rfl, rfl, rfl, rfl, rfl, rfl, rfl,
    fun k hk => ?audioRegs, fun n => by cases n <;> exact ⟨rfl, rfl⟩, rfl, rfl, rfl, rfl, Cart.resetMapper_mbc1,
    Cart.resetMapper_romOnly, rfl, rfl, rfl, rfl, fun k hk => s.apu.resetUnit_reg_wave s.params hk, rfl,
    fun image ram p t ht => ?powerOn⟩
  case audioRegs => exact (s.apu.resetUnit_reg s.params hk).trans (Apu.reset_reg k).symm
  case powerOn =>
    obtain ⟨u, rfl, hparams, hvram, hwram, hoam, hhram, hwave⟩ := powerOn_eq_hostReset ht
    refine ⟨u.hostReset_idem, hparams, hvram, hwram, hoam, hhram, fun k hk => ?_⟩
    calc u.hostReset.apu.reg k
      _ = u.apu.reg k := u.apu.resetUnit_reg_wave u.params hk
      _ = Memory.read .apu ram.wave k := by rw [Apu.reg, hwave]

end Sys2Proof.Machine
